-- ==== Sys2Proof/Word.lean ====
section
/-! DEFINITION. The widths and the numberings of the KM416, named once (spec/00_scope.md, conventions). -/

namespace Sys2Proof

/-- A byte, as it crosses a host port or one lane of the L-bus. -/
abbrev Byte := BitVec 8

/-- A sixteen-bit quantity: a count, a pattern, a mask, the data lines LD15–LD0. -/
abbrev Half := BitVec 16

/-- An L-bus address, LA23–LA0. -/
abbrev Addr := BitVec 24

/-- The number of a host, and of its port: 0 to 3. -/
abbrev HostNo := Fin 4

/-- The number of a transfer context: 0 to 15 (R1). -/
abbrev CtxNo := Fin 16

/-- The number of a window: 0 to 7 (R29). -/
abbrev WinNo := Fin 8

/-- The number of a request line: 0 to 7 (R120). -/
abbrev LineNo := Fin 8

/-- The width of an L-bus port: the two widths an answer can show (Table 4-4). -/
inductive Width where
  | w8
  | w16
  deriving DecidableEq, Repr

end Sys2Proof
end

