-- ==== Sys2Proof/Syntax.lean ====
section
/-! DEFINITION. The commands of the KM416: one constructor of `Instr` for each row of spec/opcode_table.json.
The rows are the part's indivisible steps (spec/95_what_each_step_holds.md). -/

namespace Sys2Proof

/-- The four answers that complete a beat (Table 4-4). -/
inductive Answer where
  | ans8
  | ans16
  | sgl8
  | sgl16
  deriving DecidableEq, Repr

/-- The codes of LANS2–LANS0 that fail a beat: FAULT and the two unnamed encodings (Table 10-14). -/
inductive FaultCode where
  | fault111
  | unnamed101
  | unnamed110
  deriving DecidableEq, Repr

/-- The commands. `h` is the port concerned and so the issuing host (R153). The commands of a host carry no
parameters here: their parameters are the bytes that the port has collected and passed to the block (R152, R153). -/
inductive Instr where
  /-- COMMAND_BYTE (R151): host `h` writes the command byte `b`. -/
  | commandByte (h : HostNo) (b : Byte)
  /-- PARAMETER_BYTE (R152): host `h` writes the parameter byte `b`. -/
  | parameterByte (h : HostNo) (b : Byte)
  /-- STATUS_READ (R156): host `h` reads its status byte. -/
  | statusRead (h : HostNo)
  /-- RESPONSE_READ (R155): host `h` reads the next response byte. -/
  | responseRead (h : HostNo)
  /-- CLM (R9): the Context Table takes the claim that port `h` passed to it. -/
  | clm (h : HostNo)
  /-- REL (R10): the Context Table takes host `h`'s release. -/
  | rel (h : HostNo)
  /-- SRC (R11): the Context Table takes host `h`'s setting of a source. -/
  | src (h : HostNo)
  /-- DST (R11): the Context Table takes host `h`'s setting of a destination. -/
  | dst (h : HostNo)
  /-- CNT (R12): the Context Table takes host `h`'s setting of a count. -/
  | cnt (h : HostNo)
  /-- MOD (R13): the Context Table takes host `h`'s setting of a mode. -/
  | mod (h : HostNo)
  /-- PAT (R14): the Context Table takes host `h`'s setting of a pattern. -/
  | pat (h : HostNo)
  /-- LNK (R15): the Context Table takes host `h`'s setting of a link. -/
  | lnk (h : HostNo)
  /-- STA (R16, R17): the Context Table takes host `h`'s start. -/
  | sta (h : HostNo)
  /-- SUS (R19, R116): the Context Table takes host `h`'s suspend. -/
  | sus (h : HostNo)
  /-- RSM (R20): the Context Table takes host `h`'s resume. -/
  | rsm (h : HostNo)
  /-- ABT (R21, R113 to R115): the Context Table takes host `h`'s abort. -/
  | abt (h : HostNo)
  /-- QRY (R24): the Context Table takes host `h`'s query of a context. -/
  | qry (h : HostNo)
  /-- OPW (R31, R32): the Window Table takes host `h`'s opening of a window. -/
  | opw (h : HostNo)
  /-- CLW (R35): the Window Table takes host `h`'s closing of a window. -/
  | clw (h : HostNo)
  /-- QWN (R34): the Window Table takes host `h`'s query of a window. -/
  | qwn (h : HostNo)
  /-- WGT (R56): the Scheduler takes host `h`'s weight. -/
  | wgt (h : HostNo)
  /-- TKE (R144): the Completion Unit takes host `h`'s take of a record. -/
  | tke (h : HostNo)
  /-- PEK (R145): the Completion Unit takes host `h`'s peek at a record. -/
  | pek (h : HostNo)
  /-- RSN (R160): host `h` resigns; port `h` carries it out. -/
  | rsn (h : HostNo)
  /-- BAD_CMD (R153): port `h` completes the unassigned code `code`. -/
  | badCmd (h : HostNo) (code : Byte)
  /-- PRST_ASSERTION (R159): PRSTn of port `h` is observed asserted. -/
  | prstAssertion (h : HostNo)
  /-- PRST_RELEASE (R162): PRSTn of port `h` is observed deasserted. -/
  | prstRelease (h : HostNo)
  /-- RESET (R27, R47, R63, R90, R102, R133, R148, R165). -/
  | reset
  /-- GRANT_ARRIVAL (R93): LGNT is observed asserted. -/
  | grantArrival
  /-- GRANT_WITHDRAWAL (R95): LGNT is observed deasserted. -/
  | grantWithdrawal
  /-- BEAT_ANSWER (R79): the target answers `a` with `ld` on LD15–LD0 (read by a read beat alone) and TERM observed
  asserted or not. -/
  | beatAnswer (a : Answer) (ld : Half) (term : Bool)
  /-- FAULT_ANSWER (R104): the target answers with a code that fails the beat. -/
  | faultAnswer (code : FaultCode)
  /-- ACK_TIMEOUT (R105): the acknowledge time limit of the beat in flight expires. -/
  | ackTimeout
  /-- REQUEST_OBSERVED_ASSERTED (R120): RQn is observed asserted. -/
  | requestObservedAsserted (n : LineNo)
  /-- REQUEST_OBSERVED_DEASSERTED (R120): RQn is observed deasserted. -/
  | requestObservedDeasserted (n : LineNo)
  /-- SERVICE_CUT (R118): the engine cuts the service of a withdrawn host. -/
  | serviceCut
  /-- NEXT_WITHDRAWAL_STEP (R161): port `h` hands over the next step of its host's withdrawal. -/
  | nextWithdrawalStep (h : HostNo)
  deriving DecidableEq, Repr

/-- The commands a host issues by a code (Table 10-1). -/
inductive Cmd where
  | clm | rel | src | dst | cnt | mod | pat | lnk | sta | sus | rsm | abt | qry
  | tke | pek | opw | clw | qwn | wgt | rsn
  deriving DecidableEq, Repr

end Sys2Proof
end

