-- ==== Sys2Proof/Decode.lean ====
section
/-! DEFINITION. Reading codes. spec/opcode_table.json gives no row any bits (its rows are arrivals and steps, not
encodings), so no table word spells a command (log 13). The codes of a host's commands reach the part as the bytes of
COMMAND_BYTE; Table 10-1 is `Cmd.ofCode`, with the encoder `Cmd.code` after it. -/

namespace Sys2Proof

/-- The command a table word spells: none, since no row of the table has bits. -/
def decodeTableWord (_nbits _w : Nat) : Option Instr := none

/-- The command a code stands for; none for an unassigned code (Table 10-1). -/
def Cmd.ofCode (b : Byte) : Option Cmd :=
  match b.toNat with
  | 0x10 => some .clm
  | 0x11 => some .rel
  | 0x20 => some .src
  | 0x21 => some .dst
  | 0x22 => some .cnt
  | 0x23 => some .mod
  | 0x24 => some .pat
  | 0x25 => some .lnk
  | 0x30 => some .sta
  | 0x31 => some .sus
  | 0x32 => some .rsm
  | 0x33 => some .abt
  | 0x38 => some .qry
  | 0x40 => some .tke
  | 0x41 => some .pek
  | 0x50 => some .opw
  | 0x51 => some .clw
  | 0x52 => some .qwn
  | 0x60 => some .wgt
  | 0x61 => some .rsn
  | _ => none

/-- The code of a command (Table 10-1). -/
def Cmd.code : Cmd → Byte
  | .clm => 0x10
  | .rel => 0x11
  | .src => 0x20
  | .dst => 0x21
  | .cnt => 0x22
  | .mod => 0x23
  | .pat => 0x24
  | .lnk => 0x25
  | .sta => 0x30
  | .sus => 0x31
  | .rsm => 0x32
  | .abt => 0x33
  | .qry => 0x38
  | .tke => 0x40
  | .pek => 0x41
  | .opw => 0x50
  | .clw => 0x51
  | .qwn => 0x52
  | .wgt => 0x60
  | .rsn => 0x61

/-- How many parameter bytes a command owes (Table 10-1). -/
def Cmd.paramCount : Cmd → Nat
  | .clm => 1
  | .rel => 1
  | .src => 6
  | .dst => 6
  | .cnt => 3
  | .mod => 3
  | .pat => 5
  | .lnk => 2
  | .sta => 1
  | .sus => 1
  | .rsm => 1
  | .abt => 1
  | .qry => 1
  | .tke => 0
  | .pek => 0
  | .opw => 10
  | .clw => 1
  | .qwn => 1
  | .wgt => 1
  | .rsn => 0

end Sys2Proof
end

