-- ==== Sys2Proof/Config.lean ====
section
/-! DEFINITION. What the manual leaves open and the model leaves free. Nothing can be proved of a constant here: a statement
about the model holds whatever they are. -/

namespace Sys2Proof

/-- FREE VALUE (log 6). A run end is posted and the posting changes a ready list: R51 lets the posting or the selection that
follows be taken first. The `k`-th free choice, `selectionFirst k` says whether the selection comes first. -/
opaque Config.selectionFirst : Nat → Bool

/-- FREE VALUE (log 7). A selection is due with the grant held: R94 and R95 let the next arrival come before the selection.
The `k`-th free choice, `selectionLater k` says whether the selection waits. -/
opaque Config.selectionLater : Nat → Bool

/-- FREE VALUE (log 7). A selection has begun a service: R95 lets the next arrival come before its first strobe. The `k`-th
free choice, `strobeLater k` says whether the first strobe waits. -/
opaque Config.strobeLater : Nat → Bool

/-- FREE VALUE (log 28). A service is PINNED while an abort taken after the loss of the grant waits for it and LGNT stands
asserted again: R93 and R115 give no order of the two. The `k`-th free choice, `grantFirst k` says whether the grant arrival
comes first. -/
opaque Config.grantFirst : Nat → Bool

/-- FREE VALUE (log 30). An answer or an expiry arrives with a beat in flight, while the same may still arrive late of the beat
that ended last: R105 and R106 give a late one no effect, and nothing on the bus tells the two apart. The `k`-th free choice,
`arrivesLate k` says whether this one is the late one. -/
opaque Config.arrivesLate : Nat → Bool

/-- FREE VALUE (log 27). The current address of a side after the last unit of a run, where the step leaves 000000H to FFFFFFH:
R76 gives no such address. The arguments are the direction (down for DEC), the unit size and the address of that unit. -/
opaque Config.addressBeyond : (down : Bool) → (bytes : Nat) → Addr → Addr

end Sys2Proof
end

