-- ==== Sys2Proof/Machine/State.lean ====
section
/-! DEFINITION. The state of the KM416, block by block (Table 0-1), as plain data, and its value after RESET. -/

namespace Sys2Proof.Machine

/-! ## Context Table (chapter 1) -/

/-- The six context states (section 1.3). -/
inductive CtxState where
  | free | claimed | ready | active | suspended | held
  deriving DecidableEq, Repr

/-- The type of a run (R5). -/
inductive Kind where
  | move | fill | check
  deriving DecidableEq, Repr

/-- The unit a context moves: one byte or two. -/
inductive UnitSize where
  | one | two
  deriving DecidableEq, Repr

/-- The step of a side's addresses (R76). -/
inductive AddrStep where
  | inc | dec | hold
  deriving DecidableEq, Repr

/-- The side of a transfer that faces the pacing device (chapter 7). -/
inductive LineSide where
  | source | dest
  deriving DecidableEq, Repr

/-- The pacing of a LINE context (chapter 7). -/
inductive Pacing where
  | paced | stream
  deriving DecidableEq, Repr

/-- The trigger of a context; with SOFT no line, side or pacing is recorded (R13). -/
inductive Trigger where
  | soft
  | line (n : LineNo) (side : LineSide) (pacing : Pacing)
  deriving DecidableEq, Repr

/-- The seven causes of a run end (Table 8-1). -/
inductive Cause where
  | count | term | matched | abort | fault | timeout | width
  deriving DecidableEq, Repr

/-- The parts-present set of a context (R2). -/
structure Parts where
  source  : Bool
  dest    : Bool
  count   : Bool
  mode    : Bool
  pattern : Bool
  link    : Bool
  deriving DecidableEq, Repr

/-- What a run end carries to the Completion Unit, and what a HELD context keeps as its pending end (R134, R141). -/
structure RunEnd where
  cause     : Cause
  wph       : Bool
  drainLost : Bool
  dataLost  : Bool
  faultAddr : Option Addr
  deriving DecidableEq, Repr

/-- A context record (Table 1-1). The armed indication is the Request Line Unit's and is not stored here. -/
structure Ctx where
  state          : CtxState
  owner          : Option HostNo
  parts          : Parts
  kind           : Kind
  unit           : UnitSize
  rep            : Bool
  priority       : Fin 4
  trigger        : Trigger
  srcWin         : WinNo
  srcStart       : Addr
  srcStep        : AddrStep
  dstWin         : WinNo
  dstStart       : Addr
  dstStep        : AddrStep
  count          : Half
  pattern        : Half
  mask           : Half
  link           : CtxNo
  curSrc         : Addr
  curDst         : Addr
  residual       : Half
  moved          : Half
  abortPending   : Bool
  suspendPending : Bool
  pendingEnd     : Option RunEnd
  deriving DecidableEq, Repr

/-! ## Window Table (chapter 2) -/

/-- The three window states (R29). -/
inductive WinState where
  | closed | opened | orphan
  deriving DecidableEq, Repr

/-- The declared width of a window (R30). -/
inductive DeclWidth where
  | w8 | w16 | auto
  deriving DecidableEq, Repr

/-- A window record (Table 2-1). Bit `h` of the share mask names host `h`. -/
structure Window where
  state        : WinState
  creator      : Option HostNo
  base         : Addr
  limit        : Addr
  width        : DeclWidth
  burstAllowed : Bool
  sideEffect   : Bool
  ackLimit     : Byte
  share        : BitVec 4
  learned      : Option Width
  demoted      : Bool
  refs         : Nat
  deriving DecidableEq, Repr

/-! ## Scheduler (chapter 3) -/

/-- The Scheduler's state. -/
structure Sched where
  /-- One ready list per host, head first (R48). -/
  ready   : Vector (List CtxNo) 4
  /-- One weight per host, 1 to 4 (R55). -/
  weights : Vector Nat 4
  /-- The host ring, slot 0 first (R57). -/
  ring    : List HostNo
  /-- The ring pointer (R58, R60). -/
  pointer : Nat
  /-- The ring mark of the service in flight (R59). -/
  mark    : Option Nat
  /-- The work-present indication (R62). -/
  work    : Bool
  deriving DecidableEq, Repr

/-! ## Transfer Engine (chapters 4 to 6) -/

/-- The six engine states (Table 4-1). -/
inductive EngState where
  | idle | asking | reading | writing | draining | pinned
  deriving DecidableEq, Repr

/-- The phase of a failed beat (R103). -/
inductive Phase where
  | read | write
  deriving DecidableEq, Repr

/-- A recorded failure (R103). -/
structure Failure where
  cause : Cause
  phase : Phase
  addr  : Addr
  deriving DecidableEq, Repr

/-- The service record (Table 4-3). The source side has a meaning for MOVE and CHECK alone, the destination side for MOVE
and FILL alone. -/
structure Service where
  ctx            : CtxNo
  kind           : Kind
  unit           : UnitSize
  trigger        : Trigger
  /-- The service length L (R69). -/
  length         : Nat
  srcWin         : WinNo
  srcStep        : AddrStep
  readAddr       : Addr
  dstWin         : WinNo
  dstStep        : AddrStep
  unitsRead      : Nat
  unitsCommitted : Nat
  /-- Unit under way: the first byte of a two-byte unit is done, on the side now being worked. -/
  half           : Bool
  /-- The beats of the current burst not yet issued (R86). -/
  burst          : Nat
  endDecided     : Option Cause
  /-- TERM was sampled in the unit under way (R129). -/
  termMark       : Bool
  /-- The request was observed deasserted (R125). -/
  reqDropped     : Bool
  failure        : Option Failure
  drainLost      : Bool
  dataLost       : Bool
  /-- The service has been PINNED, so what it writes is a pinned write-out (R100). -/
  writeOut       : Bool
  /-- The service was ending its run when it was last pinned, so the write-out is made in DRAINING (R100). -/
  pinEnding      : Bool
  deriving DecidableEq, Repr

/-- A complete unit in the holding buffer: its bytes in bus order, and the TERM mark that line side SOURCE put on it
(R70, R130). -/
structure BufUnit where
  bytes  : List Byte
  marked : Bool
  deriving DecidableEq, Repr

/-- The beat in flight: what the part drives for it (R78, R128, R132). A lane is none where the beat carries nothing on it. -/
structure Beat where
  write   : Bool
  addr    : Addr
  /-- LBYT. -/
  byte    : Bool
  /-- LBUR: another beat of the burst follows. -/
  bur     : Bool
  /-- The beat belongs to a burst of two or more beats (R86, R88). -/
  inBurst : Bool
  /-- LD15–LD8 of a write beat. -/
  hi      : Option Byte
  /-- LD7–LD0 of a write beat. -/
  lo      : Option Byte
  /-- The line whose RAn is asserted during the beat. -/
  ra      : Option LineNo
  /-- The part drives TERM on the beat. -/
  term    : Bool
  deriving DecidableEq, Repr

/-- A withdrawal of the grant that waits for the beats R95 allows, and what was taken before it (R115, R118; log 5,
log 17). -/
structure GrantLoss where
  /-- Abort pending was set when the withdrawal was taken. -/
  abortFirst : Bool
  /-- A cut was already waiting for the beat when the withdrawal was taken. -/
  cutFirst   : Bool
  deriving DecidableEq, Repr

/-- The two ways in which a beat ends, of which the second to arrive comes too late (R106). -/
inductive Rival
  | answer | expiry
  deriving DecidableEq, Repr

/-- The Transfer Engine's state. -/
structure Engine where
  state   : EngState
  service : Option Service
  /-- The complete units of the holding buffer, oldest first (R70). -/
  buffer  : List BufUnit
  /-- The partial unit of the holding buffer (R70). -/
  partialByte : Option Byte
  beat    : Option Beat
  lreq    : Bool
  lown    : Bool
  /-- LGNT as last observed. -/
  lgnt    : Bool
  losing  : Option GrantLoss
  /-- The MODEL's own: what may still arrive, too late, of the beat that ended last (R106, log 30). -/
  rival   : Option Rival
  deriving DecidableEq, Repr

/-! ## Completion Unit (chapter 8) -/

/-- A completion record (Table 8-2). -/
structure Record where
  seq         : Byte
  ctx         : CtxNo
  cause       : Cause
  wph         : Bool
  drainLost   : Bool
  dataLost    : Bool
  reloaded    : Bool
  linkTaken   : Bool
  linkRefused : Bool
  moved       : Half
  residual    : Half
  faultAddr   : Option Addr
  deriving DecidableEq, Repr

/-- The Completion Unit's state for one host. -/
structure Cq where
  /-- The completion queue, oldest record first (R140). -/
  queue   : List Record
  /-- The held list, oldest first (R142). -/
  held    : List CtxNo
  /-- The next sequence number (R137). -/
  nextSeq : Byte
  deriving DecidableEq, Repr

/-! ## Request Line Unit (chapter 7) -/

/-- The Request Line Unit's state for one line (R120); `level` is true for asserted. -/
structure Line where
  bound : Option CtxNo
  armed : Bool
  level : Bool
  deriving DecidableEq, Repr

/-! ## Host Port Units (chapter 9) -/

/-- The five port states (R150). -/
inductive PortState where
  | idle | collecting | executing | withdrawing | resetHeld
  deriving DecidableEq, Repr

/-- A command that a port has passed to its block (R153). `waiting` is absent until the block has taken the command, and
then names the ACTIVE context whose service the command waits on (R119). -/
structure Passed where
  cmd     : Cmd
  params  : List Byte
  waiting : Option CtxNo
  deriving DecidableEq, Repr

/-- A Host Port Unit's state (R150). -/
structure Port where
  state    : PortState
  latch    : Option Byte
  owed     : Nat
  collect  : List Byte
  response : List Byte
  ovr      : Bool
  err      : Bool
  passed   : Option Passed
  /-- PDn7–PDn0 as the part last drove them for a read; absent until the first read (log 11). -/
  pd       : Option Byte
  deriving DecidableEq, Repr

/-- The steps of a withdrawal (R161) by the one that comes next. -/
inductive WStep where
  /-- Step 1 waits until the block has taken the command the port had passed to it (R163, log 3). -/
  | begin
  /-- Step 2 comes next. -/
  | cut
  /-- Step 2 has reached the engine, which waits for the beat in flight (R118, log 4). -/
  | cutting
  /-- Step 3 comes next. -/
  | contexts
  /-- Step 4 comes next. -/
  | windows
  /-- Step 5 comes next. -/
  | queue
  /-- Step 6 comes next. -/
  | weight
  deriving DecidableEq, Repr

/-- A withdrawal in progress; `byRsn` while its completion owes the host the result of an RSN (R160). -/
structure Withdrawal where
  step  : WStep
  byRsn : Bool
  deriving DecidableEq, Repr

/-! ## The whole part -/

/-- The state of the part, the model's counter of free choices (log 6, 7, 28, 30), and the queue of commands that wait. -/
structure State where
  ctxs    : Vector Ctx 16
  windows : Vector Window 8
  sched   : Sched
  engine  : Engine
  cqs     : Vector Cq 4
  lines   : Vector Line 8
  ports   : Vector Port 4
  wds     : Vector (Option Withdrawal) 4
  choices : Nat
  pending : List Instr
  deriving DecidableEq, Repr

/-- No command of the part stops it: a failed beat and a refused command are data (R103, R154). -/
inductive Fault where
  deriving DecidableEq, Repr

/-- Why a command has no outcome. -/
inductive Refusal where
  /-- Raised by an arm of `exec` whose command has no meaning in the model; no arm raises it. Safe. -/
  | notModelled (mnemonic : String)
  deriving DecidableEq, Repr

/-- The empty parts-present set. -/
def Parts.empty : Parts :=
  { source := false, dest := false, count := false, mode := false, pattern := false, link := false }

/-- A context after RESET (R27). -/
def Ctx.reset : Ctx :=
  { state := .free, owner := none, parts := Parts.empty
    kind := .move, unit := .one, rep := false, priority := 0, trigger := .soft
    srcWin := 0, srcStart := 0, srcStep := .inc, dstWin := 0, dstStart := 0, dstStep := .inc
    count := 0, pattern := 0, mask := 0, link := 0
    curSrc := 0, curDst := 0, residual := 0, moved := 0
    abortPending := false, suspendPending := false, pendingEnd := none }

/-- A window after RESET (R47). -/
def Window.reset : Window :=
  { state := .closed, creator := none, base := 0, limit := 0, width := .w8, burstAllowed := false
    sideEffect := false, ackLimit := 0, share := 0, learned := none, demoted := false, refs := 0 }

/-- The Scheduler after RESET (R63). -/
def Sched.reset : Sched :=
  { ready := Vector.replicate 4 [], weights := Vector.replicate 4 1, ring := [0, 1, 2, 3]
    pointer := 0, mark := none, work := false }

/-- The Transfer Engine after RESET (R90, R102). -/
def Engine.reset : Engine :=
  { state := .idle, service := none, buffer := [], partialByte := none, beat := none
    lreq := false, lown := false, lgnt := false, losing := none, rival := none }

/-- A host's completion queue, held list and sequence number after RESET (R148). -/
def Cq.reset : Cq := { queue := [], held := [], nextSeq := 0 }

/-- A request line after RESET (R133). -/
def Line.reset : Line := { bound := none, armed := false, level := false }

/-- A port after RESET (R165). -/
def Port.reset : Port :=
  { state := .idle, latch := none, owed := 0, collect := [], response := [], ovr := false, err := false
    passed := none, pd := none }

/-- The part right after RESET, with no command waiting. -/
def State.reset : State :=
  { ctxs := Vector.replicate 16 Ctx.reset
    windows := Vector.replicate 8 Window.reset
    sched := Sched.reset
    engine := Engine.reset
    cqs := Vector.replicate 4 Cq.reset
    lines := Vector.replicate 8 Line.reset
    ports := Vector.replicate 4 Port.reset
    wds := Vector.replicate 4 none
    choices := 0
    pending := [] }

end Sys2Proof.Machine
end

