-- ==== Sys2Proof/Machine/Operands.lean ====
section
/-! DEFINITION. The byte layouts of parameters and responses (chapter 10), and the result codes. -/

namespace Sys2Proof.Machine

/-! ## Result codes (Table 10-12) -/

/-- The result codes a command can answer with. -/
inductive Result where
  | ok | badCmd | badParam | notOwner | badState | inUse | noContext | incomplete | range | denied
  | lineBusy | windowInUse | noWindow | empty
  deriving DecidableEq, Repr

/-- The byte of a result code (Table 10-12). -/
def Result.code : Result → Byte
  | .ok => 0x00
  | .badCmd => 0x01
  | .badParam => 0x02
  | .notOwner => 0x03
  | .badState => 0x04
  | .inUse => 0x05
  | .noContext => 0x06
  | .incomplete => 0x07
  | .range => 0x08
  | .denied => 0x09
  | .lineBusy => 0x0A
  | .windowInUse => 0x0B
  | .noWindow => 0x0C
  | .empty => 0x0D

/-- What a block answers to a command it has taken: its response bytes, or that the command waits on the service of the
ACTIVE context it names (R154, R119). -/
inductive Reply where
  | answer (bytes : List Byte)
  | wait (c : CtxNo)
  deriving DecidableEq, Repr

/-- The one-byte response of a result code. -/
def Reply.of (r : Result) : Reply := .answer [r.code]

/-! ## Parameters (Tables 10-2 to 10-6) -/

/-- Parameter byte P`i + 1`. The port passes a command with all its parameters present (R152). -/
def param (ps : List Byte) (i : Nat) : Byte := ps.getD i 0

/-- A context number; none for 10H to FFH (R166). -/
def ctxOf (b : Byte) : Option CtxNo :=
  if h : b.toNat < 16 then some ⟨b.toNat, h⟩ else none

/-- A window number; none for 08H to FFH (R166). -/
def winOf (b : Byte) : Option WinNo :=
  if h : b.toNat < 8 then some ⟨b.toNat, h⟩ else none

/-- A 24-bit quantity from its three bytes, high-order byte first. -/
def addrOf (b2 b1 b0 : Byte) : Addr := b2 ++ b1 ++ b0

/-- A 16-bit quantity from its two bytes, high-order byte first. -/
def halfOf (b1 b0 : Byte) : Half := b1 ++ b0

/-- A step code (Table 10-3); none where reserved. -/
def stepOf (b : Byte) : Option AddrStep :=
  match b.toNat with
  | 0 => some .inc
  | 1 => some .dec
  | 2 => some .hold
  | _ => none

/-- The fields of a mode byte. -/
structure ModeFields where
  kind     : Kind
  unit     : UnitSize
  rep      : Bool
  priority : Fin 4
  deriving DecidableEq, Repr

/-- The type bits of a mode byte; none for the reserved 11. -/
def kindOf (b : BitVec 2) : Option Kind :=
  match b.toNat with
  | 0 => some .move
  | 1 => some .fill
  | 2 => some .check
  | _ => none

/-- A mode byte (Table 10-4); none for a reserved encoding or a reserved bit set. -/
def modeOf (b : Byte) : Option ModeFields :=
  if b.extractLsb' 6 2 = 0 then
    (kindOf (b.extractLsb' 0 2)).map fun k =>
      { kind := k
        unit := if b.getLsbD 2 then .two else .one
        rep := b.getLsbD 3
        priority := (b.extractLsb' 4 2).toFin }
  else none

/-- A trigger byte (Table 10-5); none where a reserved bit is set. With SOFT, bits 4 to 0 are ignored (R166). -/
def triggerOf (b : Byte) : Option Trigger :=
  if b.extractLsb' 5 2 = 0 then
    if b.getLsbD 7 then
      some (.line (b.extractLsb' 0 3).toFin (if b.getLsbD 3 then .dest else .source)
        (if b.getLsbD 4 then .stream else .paced))
    else some .soft
  else none

/-- The fields of an attribute byte. -/
structure AttrFields where
  width        : DeclWidth
  burstAllowed : Bool
  sideEffect   : Bool
  deriving DecidableEq, Repr

/-- The declared-width bits of an attribute byte; none for the reserved 11. -/
def widthOf (b : BitVec 2) : Option DeclWidth :=
  match b.toNat with
  | 0 => some .w8
  | 1 => some .w16
  | 2 => some .auto
  | _ => none

/-- An attribute byte (Table 10-6); none for a reserved encoding or a reserved bit set. -/
def attrOf (b : Byte) : Option AttrFields :=
  if b.extractLsb' 4 4 = 0 then
    (widthOf (b.extractLsb' 0 2)).map fun w =>
      { width := w, burstAllowed := b.getLsbD 2, sideEffect := b.getLsbD 3 }
  else none

/-- A share byte; none where it names a host above host 3. -/
def shareOf (b : Byte) : Option (BitVec 4) :=
  if b.extractLsb' 4 4 = 0 then some (b.extractLsb' 0 4) else none

/-- The share mask that names host `h` alone. -/
def hostBit (h : HostNo) : BitVec 4 := 1#4 <<< h.val

/-! ## Responses (Tables 10-7 to 10-11) -/

/-- One bit of a response byte at place `i`. -/
def bitAt (i : Nat) (b : Bool) : Byte := if b then 1#8 <<< i else 0

/-- The three bytes of a 24-bit quantity, high-order byte first. -/
def addrBytes (a : Addr) : List Byte := [a.extractLsb' 16 8, a.extractLsb' 8 8, a.extractLsb' 0 8]

/-- The two bytes of a 16-bit quantity, high-order byte first. -/
def halfBytes (x : Half) : List Byte := [x.extractLsb' 8 8, x.extractLsb' 0 8]

/-- The state bits of QRY byte 2 (Table 10-8). -/
def CtxState.code : CtxState → Byte
  | .free => 0
  | .claimed => 1
  | .ready => 2
  | .active => 3
  | .suspended => 4
  | .held => 5

/-- A host number at bits 5 to 4; zero where absent (R167). -/
def hostField (o : Option HostNo) : Byte :=
  match o with
  | some h => BitVec.ofNat 8 (h.val * 16)
  | none => 0

/-- QRY byte 3: the parts present. -/
def Parts.byte (p : Parts) : Byte :=
  bitAt 0 p.source ||| bitAt 1 p.dest ||| bitAt 2 p.count ||| bitAt 3 p.mode ||| bitAt 4 p.pattern ||| bitAt 5 p.link

/-- The QRY response (Table 10-8). -/
def qryBytes (x : Ctx) (armed : Bool) : List Byte :=
  [Result.ok.code, x.state.code ||| hostField x.owner, x.parts.byte,
    bitAt 0 armed ||| bitAt 1 x.abortPending ||| bitAt 2 x.suspendPending]
    ++ addrBytes x.curSrc ++ addrBytes x.curDst ++ halfBytes x.residual ++ halfBytes x.moved

/-- The state bits of QWN byte 2 (Table 10-9). -/
def WinState.code : WinState → Byte
  | .closed => 0
  | .opened => 1
  | .orphan => 2

/-- The declared-width bits of an attribute byte (Table 10-6). -/
def DeclWidth.code : DeclWidth → Byte
  | .w8 => 0
  | .w16 => 1
  | .auto => 2

/-- The learned-width bits of QWN byte 10 (Table 10-9). -/
def learnedCode : Option Width → Byte
  | none => 0
  | some .w8 => 1
  | some .w16 => 2

/-- QWN byte 9: the attributes, as Table 10-6. -/
def Window.attrByte (w : Window) : Byte := w.width.code ||| bitAt 2 w.burstAllowed ||| bitAt 3 w.sideEffect

/-- The QWN response (Table 10-9). -/
def qwnBytes (w : Window) : List Byte :=
  [Result.ok.code, w.state.code ||| bitAt 2 w.creator.isSome ||| hostField w.creator]
    ++ addrBytes w.base ++ addrBytes w.limit
    ++ [w.attrByte, learnedCode w.learned ||| bitAt 2 w.demoted, w.share.setWidth 8, w.ackLimit, BitVec.ofNat 8 w.refs]

/-- The cause byte of a record (Table 10-11). -/
def Cause.code : Cause → Byte
  | .count => 1
  | .term => 2
  | .matched => 3
  | .abort => 4
  | .fault => 5
  | .timeout => 6
  | .width => 7

/-- The flags byte of a record (Table 10-10). -/
def Record.flagByte (r : Record) : Byte :=
  bitAt 0 r.wph ||| bitAt 1 r.drainLost ||| bitAt 2 r.dataLost ||| bitAt 3 r.reloaded ||| bitAt 4 r.linkTaken
    ||| bitAt 5 r.linkRefused

/-- A record in the layout of Table 10-10: 8 bytes, or 11 with a fault address. -/
def Record.bytes (r : Record) : List Byte :=
  [r.seq, BitVec.ofNat 8 r.ctx.val, r.cause.code, r.flagByte] ++ halfBytes r.moved ++ halfBytes r.residual
    ++ (match r.faultAddr with
        | some a => addrBytes a
        | none => [])

/-- The TKE and PEK response (Table 10-10): the result, the length, the record. -/
def recordResponse (r : Record) : List Byte :=
  [Result.ok.code, BitVec.ofNat 8 r.bytes.length] ++ r.bytes

/-! ## L-bus answers (Table 10-14) -/

/-- A code of LANS2–LANS0, decoded whole (R168). -/
inductive Lans where
  | wait
  | done (a : Answer)
  | failed (c : FaultCode)
  deriving DecidableEq, Repr

/-- Table 10-14: which arrival a code of LANS2–LANS0 is; WAIT is none. -/
def lansOf (b : BitVec 3) : Lans :=
  match b.toNat with
  | 0 => .wait
  | 1 => .done .ans8
  | 2 => .done .ans16
  | 3 => .done .sgl8
  | 4 => .done .sgl16
  | 5 => .failed .unnamed101
  | 6 => .failed .unnamed110
  | _ => .failed .fault111

/-- The code of LANS2–LANS0 for an arrival (Table 10-14). -/
def Lans.code : Lans → BitVec 3
  | .wait => 0
  | .done .ans8 => 1
  | .done .ans16 => 2
  | .done .sgl8 => 3
  | .done .sgl16 => 4
  | .failed .unnamed101 => 5
  | .failed .unnamed110 => 6
  | .failed .fault111 => 7

end Sys2Proof.Machine

namespace Sys2Proof

/-- The port width an answer shows (Table 4-4). -/
def Answer.width : Answer → Width
  | .ans8 | .sgl8 => .w8
  | .ans16 | .sgl16 => .w16

/-- The answer says that no further beats of a burst are taken (Table 4-4). -/
def Answer.single : Answer → Bool
  | .sgl8 | .sgl16 => true
  | .ans8 | .ans16 => false

end Sys2Proof
end

