-- ==== Sys2Proof/Machine/Ops.lean ====
section
/-! DEFINITION. The operations that the commands share, block by block: the one place where each record is read and
written, windows and references, lines, ready lists and the ring, starts, run ends and postings, ports, withdrawals.
The Transfer Engine's operations are in Machine/Engine.lean. -/

namespace Sys2Proof.Machine

/-! ## Reading and writing the tables -/

/-- Context record `c`. -/
def State.ctx (s : State) (c : CtxNo) : Ctx := s.ctxs[c.val]

/-- The state with context record `c` replaced. -/
def State.setCtx (s : State) (c : CtxNo) (x : Ctx) : State := { s with ctxs := s.ctxs.set c.val x }

/-- Window record `w`. -/
def State.window (s : State) (w : WinNo) : Window := s.windows[w.val]

/-- The state with window record `w` replaced. -/
def State.setWindow (s : State) (w : WinNo) (x : Window) : State := { s with windows := s.windows.set w.val x }

/-- Request line `n`. -/
def State.line (s : State) (n : LineNo) : Line := s.lines[n.val]

/-- The state with request line `n` replaced. -/
def State.setLine (s : State) (n : LineNo) (x : Line) : State := { s with lines := s.lines.set n.val x }

/-- Port `h`. -/
def State.port (s : State) (h : HostNo) : Port := s.ports[h.val]

/-- The state with port `h` replaced. -/
def State.setPort (s : State) (h : HostNo) (x : Port) : State := { s with ports := s.ports.set h.val x }

/-- The Completion Unit's state for host `h`. -/
def State.cq (s : State) (h : HostNo) : Cq := s.cqs[h.val]

/-- The state with the Completion Unit's state for host `h` replaced. -/
def State.setCq (s : State) (h : HostNo) (x : Cq) : State := { s with cqs := s.cqs.set h.val x }

/-- The withdrawal of host `h`, if one is in progress. -/
def State.wd (s : State) (h : HostNo) : Option Withdrawal := s.wds[h.val]

/-- The state with the withdrawal of host `h` replaced. -/
def State.setWd (s : State) (h : HostNo) (x : Option Withdrawal) : State := { s with wds := s.wds.set h.val x }

/-- Host `h`'s ready list, head first. -/
def State.readyList (s : State) (h : HostNo) : List CtxNo := s.sched.ready[h.val]

/-- The state with host `h`'s ready list replaced. -/
def State.setReady (s : State) (h : HostNo) (l : List CtxNo) : State :=
  { s with sched := { s.sched with ready := s.sched.ready.set h.val l } }

/-- Host `h`'s weight. -/
def State.weight (s : State) (h : HostNo) : Nat := s.sched.weights[h.val]

/-- The state with host `h`'s weight replaced. -/
def State.setWeight (s : State) (h : HostNo) (n : Nat) : State :=
  { s with sched := { s.sched with weights := s.sched.weights.set h.val n } }

/-- The state with the ring mark replaced. -/
def State.setMark (s : State) (m : Option Nat) : State := { s with sched := { s.sched with mark := m } }

/-- The state with the host ring replaced, and the ring pointer with it. -/
def State.setRing (s : State) (r : List HostNo) (p : Nat) : State :=
  { s with sched := { s.sched with ring := r, pointer := p } }

/-- The state with the work-present indication replaced. -/
def State.setWork (s : State) (b : Bool) : State := { s with sched := { s.sched with work := b } }

/-- The state with the model's counter of free choices advanced (log 6, 7, 28, 30). -/
def State.countChoice (s : State) : State := { s with choices := s.choices + 1 }

/-- The state with the engine replaced. -/
def State.setEngine (s : State) (e : Engine) : State := { s with engine := e }

/-- The hosts, in order. -/
def hosts : List HostNo := [0, 1, 2, 3]

/-- The contexts, in order. -/
def allCtxs : List CtxNo := List.finRange 16

/-- The windows, in order. -/
def allWins : List WinNo := List.finRange 8

/-! ## Facts of a context -/

/-- READY, ACTIVE, SUSPENDED and HELD are the started states (R6). -/
def CtxState.started : CtxState → Bool
  | .ready | .active | .suspended | .held => true
  | .free | .claimed => false

/-- The source role is used by MOVE and CHECK (R6). -/
def Kind.usesSource : Kind → Bool
  | .move | .check => true
  | .fill => false

/-- The destination role is used by MOVE and FILL (R6). -/
def Kind.usesDest : Kind → Bool
  | .move | .fill => true
  | .check => false

/-- The bytes of a unit. -/
def UnitSize.bytes : UnitSize → Nat
  | .one => 1
  | .two => 2

/-- COUNT, TERM and MATCH are the ordinary ends (section 8.1). -/
def Cause.ordinary : Cause → Bool
  | .count | .term | .matched => true
  | .abort | .fault | .timeout | .width => false

/-- The windows named in the roles that the type uses, one entry a role (R37). -/
def Ctx.usedWindows (x : Ctx) : List WinNo :=
  (if x.kind.usesSource then [x.srcWin] else []) ++ (if x.kind.usesDest then [x.dstWin] else [])

/-- The address of the unit after the one at `a` (R76). Past FFFFFFH and below 000000H the manual gives none: a free value
(log 27). -/
def AddrStep.next (st : AddrStep) (u : UnitSize) (a : Addr) : Addr :=
  match st with
  | .inc => if a.toNat + u.bytes < 2 ^ 24 then a + BitVec.ofNat 24 u.bytes else Config.addressBeyond false u.bytes a
  | .dec => if u.bytes ≤ a.toNat then a - BitVec.ofNat 24 u.bytes else Config.addressBeyond true u.bytes a
  | .hold => a

/-! ## Windows (chapter 2) -/

/-- The effects of a close: state, creator, share mask, learned width and burst demoted; the attributes stay (R35). -/
def Window.close (w : Window) : Window :=
  { w with state := .closed, creator := none, share := 0, learned := none, demoted := false }

/-- One role use of a window is given up; an ORPHAN window left without a reference closes (R40, R45). -/
def Window.release (w : Window) : Window :=
  let w' := { w with refs := w.refs - 1 }
  if w'.state = .orphan ∧ w'.refs = 0 then w'.close else w'

/-- One role use of a window is taken (R39). -/
def Window.addRef (w : Window) : Window := { w with refs := w.refs + 1 }

/-- The state with one reference on window `w` released. -/
def State.releaseRef (s : State) (w : WinNo) : State := s.setWindow w (s.window w).release

/-- The state with one reference on window `w` taken. -/
def State.addRef (s : State) (w : WinNo) : State := s.setWindow w (s.window w).addRef

/-- The width in force on a window (R81); none on an AUTO window whose width is not yet learned. -/
def Window.inForce (w : Window) : Option Width :=
  match w.width with
  | .w8 => some .w8
  | .w16 => some .w16
  | .auto => w.learned

/-- A completing answer of width `a` teaches an AUTO window whose learned width is absent (R84). -/
def Window.learn (w : Window) (a : Width) : Window :=
  if w.width = .auto ∧ w.learned = none then { w with learned := some a } else w

/-! ## Request lines (chapter 7) -/

/-- The line a context's trigger names. -/
def Trigger.lineNo : Trigger → Option LineNo
  | .line n _ _ => some n
  | .soft => none

/-- The trigger is LINE with pacing PACED. -/
def Trigger.isPaced : Trigger → Bool
  | .line _ _ .paced => true
  | _ => false

/-- The trigger is LINE with pacing STREAM. -/
def Trigger.isStream : Trigger → Bool
  | .line _ _ .stream => true
  | _ => false

/-- Binding: the line is bound to the context and its armed flag is set (R121). -/
def State.bindLine (s : State) (c : CtxNo) : State :=
  match (s.ctx c).trigger.lineNo with
  | some n => s.setLine n { s.line n with bound := some c, armed := true }
  | none => s

/-- Release of the binding: no bound context, armed flag clear, level kept (R122). -/
def State.unbindLine (s : State) (c : CtxNo) : State :=
  match (s.ctx c).trigger.lineNo with
  | some n => if (s.line n).bound = some c then s.setLine n { s.line n with bound := none, armed := false } else s
  | none => s

/-- The armed flag of the context's line is written (R123). -/
def State.setArmed (s : State) (c : CtxNo) (b : Bool) : State :=
  match (s.ctx c).trigger.lineNo with
  | some n => s.setLine n { s.line n with armed := b }
  | none => s

/-- The armed indication of QRY: no for SOFT, for STREAM and outside the started states (R24). -/
def State.armedShown (s : State) (c : CtxNo) : Bool :=
  match (s.ctx c).trigger with
  | .line n _ .paced => (s.ctx c).state.started && (s.line n).armed
  | _ => false

/-! ## Resources of a started context (R6) -/

/-- References and binding are given up as the context leaves the started states (R6). -/
def State.releaseResources (s : State) (c : CtxNo) : State :=
  ((s.ctx c).usedWindows.foldl State.releaseRef s).unbindLine c

/-- References and binding are taken as the context enters the started states (R6, R39, R121). -/
def State.takeResources (s : State) (c : CtxNo) : State :=
  ((s.ctx c).usedWindows.foldl State.addRef s).bindLine c

/-! ## Scheduler (chapter 3) -/

/-- An entry at the tail of host `h`'s ready list (R49). -/
def State.enterTail (s : State) (h : HostNo) (c : CtxNo) : State := s.setReady h (s.readyList h ++ [c])

/-- An entry at the head of host `h`'s ready list (R49). -/
def State.enterHead (s : State) (h : HostNo) (c : CtxNo) : State := s.setReady h (c :: s.readyList h)

/-- A removal from host `h`'s ready list, wherever the context stands (R50). -/
def State.leaveReady (s : State) (h : HostNo) (c : CtxNo) : State := s.setReady h ((s.readyList h).erase c)

/-- Host `h` is in withdrawal for the Scheduler: step 1 has been taken (R64). -/
def State.inWithdrawal (s : State) (h : HostNo) : Bool :=
  match s.wd h with
  | some w => w.step ≠ .begin
  | none => false

/-- The trigger of a listed context permits it to run (R52). -/
def State.triggerReady (s : State) (c : CtxNo) : Bool :=
  match (s.ctx c).trigger with
  | .soft => true
  | .line n _ .paced => (s.line n).armed && (s.line n).level
  | .line n _ .stream => (s.line n).level

/-- The eligible contexts of host `h`, in the order of its ready list (R52). -/
def State.eligible (s : State) (h : HostNo) : List CtxNo :=
  if s.inWithdrawal h then [] else (s.readyList h).filter s.triggerReady

/-- Some context on some ready list is eligible (R62). -/
def State.anyEligible (s : State) : Bool := hosts.any fun h => !(s.eligible h).isEmpty

/-- The work-present indication is re-evaluated (R62), and an engine that holds no grant asks for the bus or gives its
request up on it (R92). -/
def State.reevaluate (s : State) : State :=
  let s1 := s.setWork s.anyEligible
  match s.engine.state with
  | .idle => if s.anyEligible then s1.setEngine { s.engine with state := .asking, lreq := true } else s1
  | .asking => if !s.anyEligible && !s.engine.lown then s1.setEngine { s.engine with state := .idle, lreq := false } else s1
  | _ => s1

/-- The host ring that the weights give (R57). -/
def ringOf (weights : Vector Nat 4) : List HostNo :=
  [1, 2, 3, 4].flatMap fun r => hosts.filter fun h => r ≤ weights[h.val]

/-- A rebuild of the host ring (R58). -/
def State.rebuild (s : State) : State := (s.setRing (ringOf s.sched.weights) 0).setMark none

/-- The end of a service, completed or with a run end: the pointer moves past the ring mark, if there is one, and the mark is
removed (R60). -/
def State.movePointer (s : State) : State :=
  match s.sched.mark with
  | some m => (s.setRing s.sched.ring ((m + 1) % s.sched.ring.length)).setMark none
  | none => s

/-- The ring mark is removed and the pointer stays, at a yield or a cut (R60). -/
def State.dropMark (s : State) : State := s.setMark none

/-- The most urgent context of a list, the nearest the head among equals (R54). -/
def State.mostUrgent (s : State) : List CtxNo → Option CtxNo
  | [] => none
  | c :: cs =>
    match s.mostUrgent cs with
    | some d => if (s.ctx d).priority < (s.ctx c).priority then some d else some c
    | none => some c

/-- The slots in the order in which a selection examines them (R59). -/
def State.slotOrder (s : State) : List Nat :=
  (List.range s.sched.ring.length).map fun i => (s.sched.pointer + i) % s.sched.ring.length

/-- What a selection finds at one slot (R59). -/
def State.atSlot (s : State) (slot : Nat) : Option (Nat × CtxNo) :=
  match s.sched.ring[slot]? with
  | some h => (s.mostUrgent (s.eligible h)).map fun c => (slot, c)
  | none => none

/-- The slot and the context that a selection chooses, or none (R59). -/
def State.choose (s : State) : Option (Nat × CtxNo) := s.slotOrder.findSome? s.atSlot

/-! ## Starting a context (R16 to R18) -/

/-- A part that the type makes mandatory is absent (R5, Table 1-3). -/
def Ctx.incomplete (x : Ctx) : Bool :=
  !(x.parts.mode && x.parts.count &&
    match x.kind with
    | .move => x.parts.source && x.parts.dest
    | .fill => x.parts.dest && x.parts.pattern
    | .check => x.parts.source && x.parts.pattern)

/-- The unit is two bytes and a used side's start address is odd (R16, check 4). -/
def Ctx.oddStart (x : Ctx) : Bool :=
  x.unit = .two &&
    ((x.kind.usesSource && x.srcStart.getLsbD 0) || (x.kind.usesDest && x.dstStart.getLsbD 0))

/-- The line side names a side that the type does not use (R16, check 4). -/
def Ctx.badLineSide (x : Ctx) : Bool :=
  match x.trigger with
  | .line _ .source _ => !x.kind.usesSource
  | .line _ .dest _ => !x.kind.usesDest
  | .soft => false

/-- The lower and the upper end of a side's address span (R16), before any wrap. -/
def span (start : Addr) (st : AddrStep) (count : Half) (u : UnitSize) : Int × Int :=
  let a : Int := start.toNat
  let n : Int := count.toNat
  let b : Int := u.bytes
  match st with
  | .inc => (a, a + n * b - 1)
  | .dec => (a - (n - 1) * b, a + b - 1)
  | .hold => (a, a + b - 1)

/-- The span lies inside the window; a span that leaves the address space lies outside every window (R38). -/
def Window.covers (w : Window) (p : Int × Int) : Bool :=
  (w.base.toNat : Int) ≤ p.1 && p.2 ≤ (w.limit.toNat : Int)

/-- Check 7 on the used sides (R38). -/
def State.rangeOk (s : State) (x : Ctx) : Bool :=
  (!x.kind.usesSource || (s.window x.srcWin).covers (span x.srcStart x.srcStep x.count x.unit)) &&
    (!x.kind.usesDest || (s.window x.dstWin).covers (span x.dstStart x.dstStep x.count x.unit))

/-- The trigger is LINE and its line is bound to a context (R16, check 8; R121). -/
def State.lineBusy (s : State) (x : Ctx) : Bool :=
  match x.trigger.lineNo with
  | some n => (s.line n).bound.isSome
  | none => false

/-- Checks 2 to 8 of a start of context `c` for host `h`, in order: the result of the first that fails (R16). -/
def State.startCheck (s : State) (c : CtxNo) (h : HostNo) : Option Result :=
  let x := s.ctx c
  if x.state ≠ .claimed then some .badState
  else if x.incomplete then some .incomplete
  else if (x.rep && x.parts.link) || x.oddStart || x.badLineSide then some .badParam
  else if x.usedWindows.any fun w => (s.window w).state = .closed then some .noWindow
  else if x.usedWindows.any fun w => !(s.window w).share.getLsbD h.val then some .denied
  else if !s.rangeOk x then some .range
  else if s.lineBusy x then some .lineBusy
  else none

/-- The current set at the beginning of a run: the current addresses of the used sides, residual and moved (R17, R138). -/
def Ctx.restart (x : Ctx) : Ctx :=
  { x with
    curSrc := if x.kind.usesSource then x.srcStart else x.curSrc
    curDst := if x.kind.usesDest then x.dstStart else x.curDst
    residual := x.count
    moved := 0 }

/-- A start that has passed its checks takes effect (R17). -/
def State.takeStart (s : State) (c : CtxNo) (h : HostNo) : State :=
  ((s.takeResources c).setCtx c
    { (s.ctx c).restart with state := .ready, abortPending := false, suspendPending := false }).enterTail h c

/-! ## Run ends and postings (chapter 8) -/

/-- The context goes to CLAIMED at a posting that does not reload, giving up its resources (R23). -/
def State.toClaimed (s : State) (c : CtxNo) : State :=
  (s.releaseResources c).setCtx c { s.ctx c with state := .claimed, suspendPending := false, pendingEnd := none }

/-- The context reloads at its posting (R23, R138). -/
def State.reload (s : State) (c : CtxNo) (h : HostNo) : State :=
  let x := { (s.ctx c).restart with suspendPending := false, pendingEnd := none }
  if (s.ctx c).suspendPending then s.setCtx c { x with state := .suspended }
  else (s.setCtx c { x with state := .ready }).enterTail h c

/-- What a posting did to the context, as the record's posting flags tell it (R136, step 3). -/
inductive Posted where
  | plain | reloaded | linkTaken | linkRefused
  deriving DecidableEq, Repr

/-- The disposition of context `c` of host `h` at its posting with cause `k` (R136, step 2). -/
def State.dispose (s : State) (c : CtxNo) (h : HostNo) (k : Cause) : State × Posted :=
  let x := s.ctx c
  if k.ordinary && x.rep then (s.reload c h, .reloaded)
  else if k.ordinary && x.parts.link then
    let s1 := s.toClaimed c
    if (s1.ctx x.link).owner = some h ∧ s1.startCheck x.link h = none then (s1.takeStart x.link h, .linkTaken)
    else (s1, .linkRefused)
  else (s.toClaimed c, .plain)

/-- A record joins the tail of CQh with host `h`'s next sequence number (R136, steps 4 and 5). -/
def State.pushRecord (s : State) (h : HostNo) (r : Record) : State :=
  let q := s.cq h
  s.setCq h { q with queue := q.queue ++ [{ r with seq := q.nextSeq }], nextSeq := q.nextSeq + 1 }

/-- The record of a run end, but for its sequence number (R135). -/
def recordOf (c : CtxNo) (e : RunEnd) (x : Ctx) (p : Posted) : Record :=
  { seq := 0, ctx := c, cause := e.cause, wph := e.wph, drainLost := e.drainLost, dataLost := e.dataLost
    reloaded := p = .reloaded, linkTaken := p = .linkTaken, linkRefused := p = .linkRefused
    moved := x.moved, residual := x.residual, faultAddr := e.faultAddr }

/-- Posting (R136): the end of context `c` of host `h` becomes a record. -/
def State.post (s : State) (c : CtxNo) (h : HostNo) (e : RunEnd) : State :=
  let d := s.dispose c h e.cause
  d.1.pushRecord h (recordOf c e (s.ctx c) d.2)

/-- A run end that meets a full queue is held (R141). -/
def State.hold (s : State) (c : CtxNo) (h : HostNo) (e : RunEnd) : State :=
  (s.setCtx c { s.ctx c with state := .held, pendingEnd := some e }).setCq h
    { s.cq h with held := (s.cq h).held ++ [c] }

/-- Each completion queue holds at most 8 records (R140). -/
def queueDepth : Nat := 8

/-- A run end reaches the Completion Unit: abort pending is cleared (R7), and the end is posted or held (R134). -/
def State.runEnds (s : State) (c : CtxNo) (h : HostNo) (e : RunEnd) : State :=
  let s := s.setCtx c { s.ctx c with abortPending := false }
  if (s.cq h).queue.length < queueDepth then s.post c h e else s.hold c h e

/-- The head of host `h`'s held list is posted, within the TKE that made room (R143). -/
def State.releaseHeld (s : State) (h : HostNo) : State :=
  match (s.cq h).held with
  | [] => s
  | c :: rest =>
    let s1 := s.setCq h { s.cq h with held := rest }
    match (s.ctx c).pendingEnd with
    | some e => s1.post c h e
    | none => s1

/-! ## Ports (chapter 9) -/

/-- Step 1 of a withdrawal that waited for a passed command is handed over once that command is taken (R163). -/
def State.beginDue (s : State) (h : HostNo) : State :=
  match s.wd h with
  | some w => if w.step = .begin then (s.setWd h (some { w with step := .cut })).reevaluate else s
  | none => s

/-- A command completes with its response (R154). Where the port has left EXECUTING for a withdrawal, the response is
discarded (R159, R163). -/
def State.deliver (s : State) (h : HostNo) (bytes : List Byte) : State :=
  let p := s.port h
  if p.state = .executing then
    s.setPort h { p with
      state := .idle, latch := none, response := bytes, err := bytes.head? ≠ some Result.ok.code, passed := none }
  else (s.setPort h { p with passed := none }).beginDue h

/-- A command that waits on a service stays with the port as waiting, or is dropped where a withdrawal has discarded its
result (R119, R163). -/
def State.waitOn (s : State) (h : HostNo) (c : CtxNo) : State :=
  let p := s.port h
  if p.state = .executing then
    s.setPort h { p with passed := p.passed.map fun q => { q with waiting := some c } }
  else (s.setPort h { p with passed := none }).beginDue h

/-- The block's reply to the command of port `h`. -/
def State.reply (s : State) (h : HostNo) : Reply → State
  | .answer bytes => s.deliver h bytes
  | .wait c => s.waitOn h c

/-- The command that port `h` has passed to its block and the block has not yet taken. -/
def State.toTake (s : State) (h : HostNo) : Option Passed :=
  match (s.port h).passed with
  | some q => if q.waiting = none then some q else none
  | none => none

/-- A block takes the command of kind `k` that port `h` passed to it and replies (R153, R154). Where no such command is with
the block there is nothing to take (log 1). -/
def State.take (s : State) (h : HostNo) (k : Cmd) (run : List Byte → State → State × Reply) : State :=
  match s.toTake h with
  | some q => if q.cmd = k then let r := run q.params s; r.1.reply h r.2 else s
  | none => s

/-- An ABT or SUS of the owner that waits on the service of context `c` is answered OK in the step that ends that service (R119, log 26). -/
def State.answerWaiter (s : State) (c : CtxNo) : State :=
  match (s.ctx c).owner with
  | some h =>
    match (s.port h).passed with
    | some q => if q.waiting = some c then s.deliver h [Result.ok.code] else s
    | none => s
  | none => s

/-! ## Withdrawal (R28, R44, R64, R149) -/

/-- A context becomes FREE: owner, parts, pending flags and pending end are removed, the rest stays (R28). -/
def Ctx.freed (x : Ctx) : Ctx :=
  { x with state := .free, owner := none, parts := Parts.empty, abortPending := false, suspendPending := false,
           pendingEnd := none }

/-- The withdrawal of host `h` frees context `c`: it leaves h's ready list or held list, and a started context gives up its
references and its line (R28). -/
def State.freeCtx (s : State) (h : HostNo) (c : CtxNo) : State :=
  let s1 := s.leaveReady h c
  let s2 := s1.setCq h { s1.cq h with held := (s1.cq h).held.erase c }
  let s3 := if (s.ctx c).state.started then s2.releaseResources c else s2
  s3.setCtx c (s.ctx c).freed

/-- Step 3 of a withdrawal: every context of host `h` is freed (R28). -/
def State.freeContexts (s : State) (h : HostNo) : State :=
  allCtxs.foldl (fun t c => if (t.ctx c).owner = some h then t.freeCtx h c else t) s

/-- A window at step 4 of the withdrawal of its creator: closed with a count of 0, left ORPHAN otherwise (R44). -/
def Window.withdrawn (w : Window) (h : HostNo) : Window :=
  if w.state = .opened ∧ w.creator = some h then
    if w.refs = 0 then w.close else { w with state := .orphan, creator := none }
  else w

/-- Step 4 of a withdrawal (R44). -/
def State.withdrawWindows (s : State) (h : HostNo) : State :=
  allWins.foldl (fun t w => t.setWindow w ((t.window w).withdrawn h)) s

/-- Step 5 of a withdrawal: CQh is emptied and its next sequence number is 0 (R149). -/
def State.emptyQueue (s : State) (h : HostNo) : State :=
  s.setCq h { s.cq h with queue := [], nextSeq := 0 }

/-- Step 6 of a withdrawal: the weight of host `h` is 1 and the ring is rebuilt (R64). -/
def State.resetWeight (s : State) (h : HostNo) : State := (s.setWeight h 1).rebuild

/-- The port's side of a completed withdrawal: a WITHDRAWING port enters IDLE, with OK and ERR clear after RSN (R160), with
OVR and ERR clear and no response after PRSTn (R162); a RESET-HELD port stays so until its release. -/
def Port.withdrawn (p : Port) (byRsn : Bool) : Port :=
  if p.state = .withdrawing then
    if byRsn then { p with state := .idle, latch := none, response := [Result.ok.code], err := false }
    else { p with state := .idle, latch := none, response := [], ovr := false, err := false }
  else p

/-- The withdrawal of host `h` is complete. -/
def State.completeWithdrawal (s : State) (h : HostNo) : State :=
  match s.wd h with
  | some w => (s.setWd h none).setPort h ((s.port h).withdrawn w.byRsn)
  | none => s

end Sys2Proof.Machine
end

