-- ==== Sys2Proof/Machine/Engine.lean ====
section
/-! DEFINITION. The Transfer Engine (chapters 4 to 7): selection, services, beats and bursts, commits and run-end tests,
failures, aborts, the loss of the grant, the pinned state and the cut. -/

namespace Sys2Proof.Machine

/-! ## Facts of a service -/

/-- The state with the service record replaced. -/
def State.setService (s : State) (v : Service) : State := s.setEngine { s.engine with service := some v }

/-- The state with the engine state replaced. -/
def State.setEngState (s : State) (e : EngState) : State := s.setEngine { s.engine with state := e }

/-- The service has a source window, and it is side-effect (R89). -/
def State.srcSideEffect (s : State) (v : Service) : Bool := v.kind.usesSource && (s.window v.srcWin).sideEffect

/-- The line side of the service is `side` (chapter 7). -/
def Service.onSide (v : Service) (side : LineSide) : Bool :=
  match v.trigger with
  | .line _ d _ => d = side
  | .soft => false

/-- The line whose RAn is asserted on a beat of the given direction: the bound line, on a device-side beat (R128). -/
def Service.answerLine (v : Service) (write : Bool) : Option LineNo :=
  match v.trigger with
  | .line n .source _ => if write then none else some n
  | .line n .dest _ => if write then some n else none
  | .soft => none

/-- A STREAM stop is due at a unit boundary on `side` (R125). A pinned write-out makes none. -/
def Service.stopDue (v : Service) (side : LineSide) : Bool :=
  v.trigger.isStream && v.onSide side && v.reqDropped && !v.writeOut

/-- Abort pending is set for the context of the service (R7). -/
def State.abortSet (s : State) (v : Service) : Bool := (s.ctx v.ctx).abortPending

/-- The service is ending its run (R96). -/
def State.isEnding (s : State) (v : Service) : Bool :=
  v.endDecided.isSome || v.failure.isSome || s.abortSet v || s.engine.state = .draining

/-- The withdrawal of the owner of the ACTIVE context waits for the beat in flight (R118). -/
def State.cutWaiting (s : State) (v : Service) : Bool :=
  match (s.ctx v.ctx).owner with
  | some h =>
    match s.wd h with
    | some w => w.step = .cutting
    | none => false
  | none => false

/-- The run end that a service ending now carries, if any: the end decided, else the recorded failure, else ABORT (R112). -/
def Service.runEnd (v : Service) (abort : Bool) : Option RunEnd :=
  let base : RunEnd := { cause := .abort, wph := false, drainLost := v.drainLost, dataLost := v.dataLost, faultAddr := none }
  match v.endDecided with
  | some k => some { base with cause := k }
  | none =>
    match v.failure with
    | some f => some { base with cause := f.cause, wph := f.phase = .write, faultAddr := some f.addr }
    | none => if abort then some base else none

/-! ## Issuing beats (R78, R80, R83, R85, R86) -/

/-- The beats of one unit at address `a` as (address, is a byte beat), or of its second byte alone (Table 4-5). -/
def unitBeats (u : UnitSize) (wf : Option Width) (a : Addr) : List (Addr × Bool) :=
  match u with
  | .one => [(a, true)]
  | .two => if wf = some .w16 then [(a, false)] else [(a, true), (a + 1, true)]

/-- The beats of `n` units from address `a` upwards (step INC), in order. -/
def unitsBeats (u : UnitSize) (wf : Option Width) : Nat → Addr → List (Addr × Bool)
  | 0, _ => []
  | n + 1, a => unitBeats u wf a ++ unitsBeats u wf n (AddrStep.inc.next u a)

/-- The beats a phase still has to issue on an INC side, `n` units with the first perhaps half done (R86). -/
def phaseBeats (u : UnitSize) (wf : Option Width) (half : Bool) (n : Nat) (a : Addr) : List (Addr × Bool) :=
  if half then (a + 1, true) :: unitsBeats u wf (n - 1) (AddrStep.inc.next u a) else unitsBeats u wf n a

/-- A burst holds at most 8 beats (R86). -/
def burstMax : Nat := 8

/-- The length of the burst that begins with the first of these beats: at most 8, inside one 16-byte block (R86). -/
def burstLength (bs : List (Addr × Bool)) : Nat :=
  match bs with
  | [] => 0
  | b :: _ => ((bs.take burstMax).takeWhile fun x => x.1.extractLsb' 4 20 = b.1.extractLsb' 4 20).length

/-- The units the phase has still to carry on its side, the one under way included (R86, log 22). A FILL with abort pending
carries no unit beyond the one under way (R114). -/
def State.unitsLeft (s : State) (v : Service) : Nat :=
  if s.engine.state = .reading then v.length - v.unitsRead
  else match v.kind with
    | .move => s.engine.buffer.length
    | _ => if s.abortSet v then 1 else v.length - v.unitsCommitted

/-- The conditions under which a burst may begin on a side (R85). -/
def Window.mayBurst (w : Window) (st : AddrStep) (reading : Bool) : Bool :=
  st = .inc && w.burstAllowed && !w.demoted && w.inForce.isSome && !(reading && w.sideEffect)

/-- The unit being written: the head of the buffer in a MOVE, the pattern in a FILL (R71, R72). -/
def State.writeUnit (s : State) (v : Service) : List Byte :=
  match v.kind with
  | .fill =>
    let p := (s.ctx v.ctx).pattern
    match v.unit with
    | .one => [p.extractLsb' 0 8]
    | .two => [p.extractLsb' 8 8, p.extractLsb' 0 8]
  | _ =>
    match s.engine.buffer with
    | b :: _ => b.bytes
    | [] => []

/-- The lanes (LD15–LD8, LD7–LD0) of a write beat (Table 4-5, R83). A byte beat on an unlearned AUTO window drives both. -/
def writeLanes (wf : Option Width) (byteBeat : Bool) (a : Addr) (bytes : List Byte) (half : Bool) :
    Option Byte × Option Byte :=
  if byteBeat then
    let b := bytes.getD (if half then 1 else 0) 0
    match wf with
    | none => (some b, some b)
    | some .w8 => (none, some b)
    | some .w16 => if a.getLsbD 0 then (none, some b) else (some b, none)
  else (some (bytes.getD 0 0), some (bytes.getD 1 0))

/-- The part drives TERM on a beat: a device-side beat that carries the last byte of the run's last unit (R132). A beat whose
data is to be discarded carries no unit of the run (R87, log 21). -/
def State.drivesTerm (s : State) (v : Service) (write byteBeat : Bool) : Bool :=
  let lastByte := v.unit = .one || !byteBeat || v.half
  let buffered := if write then 0 else s.engine.buffer.length
  (v.answerLine write).isSome && lastByte && (write || v.endDecided.isNone) &&
    (s.ctx v.ctx).residual.toNat = buffered + 1

/-- The engine issues the next beat of the phase: the next beat of the burst under way, the first of a new burst, or a single
beat (R78, R85, R86). -/
def State.issueBeat (s : State) : State :=
  match s.engine.service with
  | none => s
  | some v =>
    let reading := s.engine.state = .reading
    let w := s.window (if reading then v.srcWin else v.dstWin)
    let wf := w.inForce
    let base := if reading then v.readAddr else (s.ctx v.ctx).curDst
    let a := if v.half then base + 1 else base
    let byteBeat := !(wf = some .w16 && v.unit = .two && !v.half)
    let planned :=
      if v.burst ≠ 0 then v.burst
      else if w.mayBurst (if reading then v.srcStep else v.dstStep) reading then
        burstLength (phaseBeats v.unit wf v.half (s.unitsLeft v) base)
      else 1
    let lanes := if reading then (none, none) else writeLanes wf byteBeat a (s.writeUnit v) v.half
    let b : Beat :=
      { write := !reading, addr := a, byte := byteBeat, bur := decide (1 < planned)
        inBurst := decide (v.burst ≠ 0) || decide (1 < planned), hi := lanes.1, lo := lanes.2
        ra := v.answerLine (!reading), term := s.drivesTerm v (!reading) byteBeat }
    s.setEngine { s.engine with beat := some b, service := some { v with burst := planned - 1 } }

/-! ## Selection and the beginning of a service (R59, R68, R69, R94) -/

/-- The service length (R69). -/
def serviceLength (x : Ctx) : Nat :=
  if x.trigger.isPaced then 1 else min x.residual.toNat (16 / x.unit.bytes)

/-- A new service record (R68). -/
def newService (c : CtxNo) (x : Ctx) : Service :=
  { ctx := c, kind := x.kind, unit := x.unit, trigger := x.trigger, length := serviceLength x
    srcWin := x.srcWin, srcStep := x.srcStep, readAddr := x.curSrc, dstWin := x.dstWin, dstStep := x.dstStep
    unitsRead := 0, unitsCommitted := 0, half := false, burst := 0, endDecided := none, termMark := false
    reqDropped := false, failure := none, drainLost := false, dataLost := false, writeOut := false, pinEnding := false }

/-- The selected context becomes ACTIVE and leaves its ready list; the armed flag of a PACED context is cleared; the engine
creates the service record (R22, R59, R68). The first strobe follows. -/
def State.beginService (s : State) (slot : Nat) (c : CtxNo) : State :=
  let x := s.ctx c
  let s1 := match x.owner with
    | some h => s.leaveReady h c
    | none => s
  let s2 := s1.setCtx c { x with state := .active }
  let s3 := if x.trigger.isPaced then s2.setArmed c false else s2
  let s4 := s3.setMark (some slot)
  s4.setEngine { s4.engine with
    state := if x.kind = .fill then .writing else .reading
    service := some (newService c x), buffer := [], partialByte := none, beat := none }

/-- What may still arrive late of the beat that ended last is no longer `r`: it has arrived, or it no longer can (R106, log 30). -/
def State.pastLate (s : State) (r : Rival) : State :=
  s.setEngine { s.engine with rival := if s.engine.rival = some r then none else s.engine.rival }

/-- The part releases the bus: LOWN and LREQ are deasserted together and the engine is IDLE, to ask again where work is
present (R94). -/
def State.releaseBus (s : State) : State :=
  (s.setEngine { s.engine with state := .idle, beat := none, lown := false, lreq := false }).reevaluate

/-- A selection with the grant held (R59): a service begins, with its first beat in flight or before its first strobe, or the
bus is released. -/
def State.selectNow (s : State) (strobe : Bool) : State :=
  match s.choose with
  | some (slot, c) =>
    let t := s.beginService slot c
    (if strobe then t.issueBeat else t).reevaluate
  | none => s.releaseBus

/-- A selection is due with the grant held. The next arrival may come before the selection, which leaves the engine in ASKING
with the grant held (R94), or before the first strobe of the service it begins (R95): a free choice (log 7). -/
def State.select (s : State) : State :=
  if Config.selectionLater s.choices then s.countChoice.reevaluate
  else s.countChoice.selectNow (!Config.strobeLater s.choices)

/-- With no arrival waiting the part goes on from the interval in which the grant is held and no beat is in flight: in ASKING
the Scheduler selects, and a service before its first strobe issues it (R59, R68, R94; log 7, 14). An expiry that came together
with the answer to an earlier beat would have been taken by now (R106, log 30). -/
def State.goOn (s : State) : State :=
  if s.engine.lown && s.engine.beat.isNone && s.engine.losing.isNone then
    match s.engine.state with
    | .asking => (s.pastLate .expiry).selectNow false
    | .reading | .writing | .draining => (s.pastLate .expiry).issueBeat
    | .idle | .pinned => s
  else s

/-- A grant arrival with LREQ asserted and LOWN deasserted (R93): a selection in ASKING; in PINNED the pinned write-out, in
DRAINING where the service was ending its run and in WRITING otherwise, with its first beat (R100, log 29). -/
def State.takeGrant (s : State) : State :=
  let s1 := s.setEngine { s.engine with lown := true }
  match s.engine.state with
  | .asking => s1.select
  | .pinned =>
    match s.engine.service with
    | some v => (s1.setEngState (if v.pinEnding then .draining else .writing)).issueBeat
    | none => s1
  | _ => s1

/-- The part has given the bus up with no service in flight: the engine is ASKING where work is present and IDLE otherwise
(R95, R97). A grant that the arbiter asserted again before LOWN fell is then a new arrival (R93, log 8). -/
def State.leaveBus (s : State) : State :=
  let s1 := (s.setEngine { s.engine with state := .asking, beat := none, lown := false, lreq := true,
                                         losing := none }).reevaluate
  if s1.engine.lgnt && s1.engine.lreq then s1.takeGrant else s1

/-! ## The end of a service (R22, R60, R77, R112) -/

/-- The grant is held and no withdrawal of it is being completed. -/
def State.holdsGrant (s : State) : Bool := s.engine.lown && s.engine.losing.isNone

/-- The service record is removed and the holding buffer is empty (R70, R77). -/
def State.dropService (s : State) : State :=
  s.setEngine { s.engine with state := .asking, service := none, buffer := [], partialByte := none, beat := none }

/-- A context whose service completed: SUSPENDED with suspend pending set, else READY at the tail (R22). -/
def State.placeCompleted (s : State) (c : CtxNo) : State :=
  let x := s.ctx c
  if x.suspendPending then s.setCtx c { x with state := .suspended, suspendPending := false }
  else match x.owner with
    | some h => (s.setCtx c { x with state := .ready }).enterTail h c
    | none => s

/-- A context whose service yielded: SUSPENDED with suspend pending set, else READY at the head (R22). -/
def State.placeYielded (s : State) (c : CtxNo) : State :=
  let x := s.ctx c
  if x.suspendPending then s.setCtx c { x with state := .suspended, suspendPending := false }
  else match x.owner with
    | some h => (s.setCtx c { x with state := .ready }).enterHead h c
    | none => s

/-- The run end of a service's context, with the answer to an ABT or SUS that waits for it (R23, R119). -/
def State.endRun (s : State) (c : CtxNo) (e : RunEnd) : State :=
  match (s.ctx c).owner with
  | some h => (s.runEnds c h e).answerWaiter c
  | none => s

/-- What follows the hand-over of an outcome: a selection with the grant held, else the bus is left (R59, R94, R95). -/
def State.afterService (s : State) : State := if s.holdsGrant then s.select else s.leaveBus

/-- The service in flight ends, completed or with its run end (R77, R98, R112). Where the posting changes a ready list and a
selection may follow, with the grant held or asserted again (R93), the order of the two is free (R51, log 6). -/
def State.endService (s : State) : State :=
  match s.engine.service with
  | none => s
  | some v =>
    let s1 := s.dropService.movePointer
    match v.runEnd (s.abortSet v) with
    | none => ((s1.placeCompleted v.ctx).answerWaiter v.ctx).afterService
    | some e =>
      let posted := s1.endRun v.ctx e
      if posted.sched.ready = s1.sched.ready ∨ (s.holdsGrant || s.engine.lgnt) = false then posted.afterService
      else if Config.selectionFirst s.choices then
        ((s1.countChoice.afterService).endRun v.ctx e).reevaluate
      else posted.countChoice.afterService

/-! ## The loss of the grant (R95 to R101) and the cut (R118) -/

/-- The service is cut: buffer and record are removed without outcome, the ring mark goes, the context is freed in the same
step, and step 2 of the withdrawal of host `h` is taken; with the grant held the Scheduler selects (R118). -/
def State.cutService (s : State) (h : HostNo) : State :=
  match s.engine.service with
  | none => s
  | some v =>
    let s1 := (s.dropService.dropMark).freeCtx h v.ctx
    let s2 := match s1.wd h with
      | some w => s1.setWd h (some { w with step := .contexts })
      | none => s1
    s2.afterService

/-- An abort that reaches a PINNED service: the buffer is discarded with DATA_LOST and the run ends (R115). -/
def State.pinnedAbort (s : State) : State :=
  match s.engine.service with
  | none => s
  | some v => (s.setEngine { s.engine with buffer := [], service := some { v with dataLost := true } }).endService

/-- A unit half read when reading stops is discarded, with DATA_LOST where the source is side-effect (R108, R113, R115). -/
def State.discardPartial (s : State) : State :=
  match s.engine.service with
  | none => s
  | some v =>
    if s.engine.state = .reading ∧ v.half then
      s.setEngine { s.engine with
        partialByte := none
        service := some { v with half := false, termMark := false, dataLost := v.dataLost || s.srcSideEffect v } }
    else s

/-- The engine enters PINNED with the whole of the service (R99). -/
def State.pin (s : State) (v : Service) : State :=
  s.setEngine { s.engine with
    state := .pinned, beat := none, lown := false, lreq := true, losing := none
    service := some { v with burst := 0, writeOut := true, pinEnding := s.isEnding v } }

/-- A yield (R97): the buffer and the record are discarded, the context goes to the head of its list, a PACED context whose unit
was not committed is armed again, the pointer stays and the mark goes. -/
def State.yieldService (s : State) (v : Service) : State :=
  let s1 := (s.dropService.dropMark).placeYielded v.ctx
  let s2 := if v.trigger.isPaced ∧ v.unitsCommitted = 0 then s1.setArmed v.ctx true else s1
  (s2.answerWaiter v.ctx).leaveBus

/-- What becomes of a service PINNED just now: a cut that waits for it is made at once (R118); an abort taken after the
withdrawal of the grant reaches it in PINNED (R115); a grant asserted again meanwhile is taken (R93). Where both wait, their order
is free (log 28). -/
def State.afterPin (s : State) (v : Service) (g : GrantLoss) : State :=
  match (s.ctx v.ctx).owner with
  | none => s
  | some h =>
    if s.cutWaiting v then s.cutService h
    else if s.abortSet v ∧ !g.abortFirst then
      if !s.engine.lgnt then s.pinnedAbort
      else if Config.grantFirst s.choices then s.countChoice.takeGrant
      else s.countChoice.pinnedAbort
    else if s.engine.lgnt then s.takeGrant
    else s

/-- Step 2 of the withdrawal of host `h` is taken where the loss of the grant has settled the service it waited for (R118). -/
def State.settleCut (s : State) (h : HostNo) : State :=
  match s.wd h with
  | some w => if w.step = .cutting then s.setWd h (some { w with step := .contexts }) else s
  | none => s

/-- The settlement of a service at the loss of the grant, by the first row of Table 5-1 whose condition holds (R96). -/
def State.settleLoss (s : State) : State :=
  let s := s.discardPartial
  match s.engine.service with
  | none => s.leaveBus
  | some v =>
    let g := s.engine.losing.getD { abortFirst := true, cutFirst := false }
    if s.srcSideEffect v && !s.engine.buffer.isEmpty then (s.pin v).afterPin v g
    else
      let s0 := match (s.ctx v.ctx).owner with
        | some h => s.settleCut h
        | none => s
      if s.isEnding v then s0.endService else s0.yieldService v

/-- The engine goes on with the next beat in the same step (log 29), or settles the service where the grant has been withdrawn
(R95). -/
def State.proceed (s : State) : State := if s.engine.losing.isSome then s.settleLoss else s.issueBeat

/-- The beat that a cut waited for has ended: the cut is made, unless the withdrawal of the grant was taken before it, which
then settles the service first (R118, log 5). -/
def State.cutAfterBeat (s : State) (v : Service) : State :=
  match (s.ctx v.ctx).owner with
  | none => s
  | some h =>
    match s.engine.losing with
    | some g => if g.cutFirst then s.cutService h else s.settleLoss
    | none => s.cutService h

/-! ## Commit and the run-end tests (R74, R75) -/

/-- A commit writes the context's residual, moved and current addresses (R74, R76). -/
def Ctx.commit (x : Ctx) : Ctx :=
  { x with
    residual := x.residual - 1
    moved := x.moved + 1
    curSrc := if x.kind.usesSource then x.srcStep.next x.unit x.curSrc else x.curSrc
    curDst := if x.kind.usesDest then x.dstStep.next x.unit x.curDst else x.curDst }

/-- The run-end tests at a commit, in order (R75): COUNT, MATCH, TERM. -/
def runEndTest (residual : Half) (matched marked : Bool) : Option Cause :=
  if residual = 0 then some .count else if matched then some .matched else if marked then some .term else none

/-- A unit matches the pattern under the mask (R73). -/
def unitMatches (x : Ctx) (bytes : List Byte) : Bool :=
  match bytes with
  | [b] => b &&& x.mask.extractLsb' 0 8 = x.pattern.extractLsb' 0 8 &&& x.mask.extractLsb' 0 8
  | [b1, b0] => (halfOf b1 b0) &&& x.mask = x.pattern &&& x.mask
  | _ => false

/-! ## Read beats (R71, R73) -/

/-- Reading has stopped before L units: a MOVE with complete units buffered drains them, any other service ends (R108, R109,
R113). -/
def State.stopReading (s : State) : State :=
  match s.engine.service with
  | none => s
  | some v =>
    if v.kind = .move ∧ !s.engine.buffer.isEmpty then
      (s.setEngine { s.engine with state := .draining, service := some { v with burst := 0 } }).proceed
    else s.endService

/-- The first byte of a two-byte unit has been read (R70). With the grant withdrawn the second byte of a side-effect unit is
still fetched (R95), unless an abort was taken before the withdrawal (R115); an abort fetches none (R113). -/
def State.readHalf (s : State) (v : Service) (b : Byte) : State :=
  let s1 := s.setEngine { s.engine with partialByte := some b, service := some { v with half := true } }
  match s.engine.losing with
  | some g => if s.srcSideEffect v && !g.abortFirst then s1.issueBeat else s1.settleLoss
  | none => if s.abortSet v then s1.discardPartial.stopReading else s1.issueBeat

/-- A MOVE unit has been read in full: it joins the buffer (R71), and reading goes on or stops by a TERM mark (R130), an abort
(R113), the length L, or a STREAM stop (R126, log 19). -/
def State.readMove (s : State) (v : Service) (bytes : List Byte) : State :=
  let v1 := { v with
    half := false, termMark := false, unitsRead := v.unitsRead + 1
    readAddr := v.srcStep.next v.unit v.readAddr }
  let e := { s.engine with partialByte := none, buffer := s.engine.buffer ++ [({ bytes := bytes, marked := v.termMark } : BufUnit)] }
  if v.termMark || s.abortSet v then
    (s.setEngine { e with state := .draining, service := some { v1 with burst := 0 } }).proceed
  else if v1.length ≤ v1.unitsRead then
    (s.setEngine { e with state := .writing, service := some { v1 with burst := 0 } }).proceed
  else if v1.stopDue .source then
    (s.setEngine { e with state := .draining, service := some { v1 with burst := 0 } }).proceed
  else (s.setEngine { e with service := some v1 }).proceed

/-- A CHECK unit has been read in full: it is compared and committed, and the run-end tests are made (R73, R75). -/
def State.readCheck (s : State) (v : Service) (bytes : List Byte) : State :=
  let x := s.ctx v.ctx
  let x1 := x.commit
  let decided := runEndTest x1.residual (unitMatches x bytes) v.termMark
  let v1 := { v with
    half := false, termMark := false, unitsRead := v.unitsRead + 1, unitsCommitted := v.unitsCommitted + 1
    readAddr := v.srcStep.next v.unit v.readAddr, endDecided := decided }
  let s1 := (s.setCtx v.ctx x1).setEngine { s.engine with partialByte := none, service := some v1 }
  if decided.isSome then
    if v1.burst = 0 then s1.endService else s1.proceed
  else if v1.length ≤ v1.unitsCommitted || s.abortSet v || v1.stopDue .source then s1.endService
  else s1.proceed

/-- The data of a beat issued after the decided end of a CHECK is discarded; the announced beats go on, and the service ends
after the last of them (R73, R87; log 21). -/
def State.readDiscarded (s : State) (v : Service) (unitDone : Bool) : State :=
  let v1 : Service :=
    if unitDone then { v with half := false, readAddr := v.srcStep.next v.unit v.readAddr } else { v with half := true }
  let s1 := s.setService v1
  if v1.burst = 0 then s1.endService else s1.proceed

/-- The byte a read byte beat takes: from the lane that the port's width and the address name (Table 4-5, R83). -/
def readLane (w : Width) (a : Addr) (ld : Half) : Byte :=
  if w = .w16 ∧ a.getLsbD 0 = false then ld.extractLsb' 8 8 else ld.extractLsb' 0 8

/-- A read beat `b` has completed with an answer of width `w`. -/
def State.readDone (s : State) (v : Service) (b : Beat) (w : Width) (ld : Half) : State :=
  let unitDone := v.unit = .one || !b.byte || v.half
  if v.kind = .check && v.endDecided.isSome then s.readDiscarded v unitDone
  else
    let byte := readLane w b.addr ld
    if !unitDone then s.readHalf v byte
    else
      let bytes :=
        if !b.byte then [ld.extractLsb' 8 8, ld.extractLsb' 0 8]
        else if v.half then [s.engine.partialByte.getD 0, byte]
        else [byte]
      if v.kind = .check then s.readCheck v bytes else s.readMove v bytes

/-! ## Write beats (R71, R72) -/

/-- The first byte of a two-byte unit has been written. A FILL with abort pending finishes the unit and no more, so its burst is
cut after the second byte (R114). -/
def State.writeHalf (s : State) (v : Service) : State :=
  let keep := if v.kind = .fill && s.abortSet v then min v.burst 1 else v.burst
  (s.setService { v with half := true, burst := keep }).proceed

/-- A unit has been written in full: it is committed, the run-end tests are made (R74, R75), and the service goes on, stops by
TERM (R131, log 18), an abort (R114) or a STREAM stop (R126, log 19), or ends. -/
def State.writeUnitDone (s : State) (v : Service) : State :=
  let x1 := (s.ctx v.ctx).commit
  let rest := s.engine.buffer.tail
  let marked := v.termMark || (match s.engine.buffer with
    | b :: _ => b.marked
    | [] => false)
  let test := runEndTest x1.residual false (marked && v.endDecided.isNone)
  let v1 := { v with
    half := false, termMark := false, unitsCommitted := v.unitsCommitted + 1
    endDecided := match test with
      | some k => some k
      | none => v.endDecided }
  let s1 := (s.setCtx v.ctx x1).setEngine { s.engine with buffer := rest, service := some v1 }
  match v.kind with
  | .move =>
    match test with
    | some .count => s1.endService
    | some _ =>
      if rest.isEmpty || !s.srcSideEffect v then s1.endService
      else (s1.setEngState .draining).proceed
    | none =>
      if rest.isEmpty then s1.endService
      else if s.engine.state = .writing && v1.stopDue .dest then
        if s.srcSideEffect v then (s1.setEngState .draining).proceed else s1.endService
      else s1.proceed
  | _ =>
    if test.isSome || v1.length ≤ v1.unitsCommitted || s.abortSet v || v1.stopDue .dest then s1.endService
    else s1.proceed

/-- A write beat has completed. -/
def State.writeDone (s : State) (v : Service) (b : Beat) : State :=
  if v.unit = .one || !b.byte || v.half then s.writeUnitDone v else s.writeHalf v

/-! ## Answers and failures (R79, R82, R84, R88, R103 to R111) -/

/-- The window on whose side a beat is issued. -/
def Service.beatWindow (v : Service) (b : Beat) : WinNo := if b.write then v.dstWin else v.srcWin

/-- TERM is taken on a completing beat: a device-side beat on which the part does not drive TERM itself, with no run end decided
in the service (R129). -/
def takesTerm (v : Service) (b : Beat) (term : Bool) : Bool :=
  term && b.ra.isSome && !b.term && v.endDecided.isNone

/-- What a failed beat records: the failure, if none is recorded yet (R103). -/
def Service.record (v : Service) (k : Cause) (p : Phase) (a : Addr) : Service :=
  match v.failure with
  | some _ => v
  | none => { v with failure := some { cause := k, phase := p, addr := a } }

/-- The beat in flight fails with cause `k` (R103): in the read phase by R108 and R109, in WRITING by R110, in DRAINING by R111.
A beat that a cut waits for records nothing (R118). -/
def State.failBeat (s : State) (k : Cause) : State :=
  match s.engine.beat, s.engine.service with
  | some b, some v0 =>
    let v := { v0 with burst := 0 }
    let e := { s.engine with beat := none }
    if s.cutWaiting v0 then (s.setEngine { e with service := some v }).cutAfterBeat v
    else match s.engine.state with
      | .reading =>
        if v.kind = .check && v.endDecided.isSome then (s.setEngine { e with service := some v }).endService
        else (s.setEngine { e with service := some (v.record k .read b.addr) }).discardPartial.stopReading
      | .draining =>
        let v1 := { v.record k .write b.addr with drainLost := true, dataLost := v.dataLost || s.srcSideEffect v }
        (s.setEngine { e with buffer := [], service := some v1 }).endService
      | _ =>
        let v1 := { v.record k .write b.addr with dataLost := v.dataLost || s.srcSideEffect v }
        (s.setEngine { e with buffer := [], service := some v1 }).endService
  | _, _ => s

/-- The state after the bus facts of a completing answer: the width learned (R84), a burst ended and the window demoted by SGL
(R88), and the beat no longer in flight. -/
def State.noteAnswer (s : State) (v : Service) (b : Beat) (a : Answer) : State :=
  let w := v.beatWindow b
  let cutShort := a.single && b.inBurst
  let x := (s.window w).learn a.width
  let s1 := s.setWindow w (if cutShort then { x with demoted := true } else x)
  s1.setEngine { s1.engine with
    beat := none, service := some { v with burst := if cutShort then 0 else v.burst } }

/-- An answer ANS8, ANS16, SGL8 or SGL16 to the beat in flight (R79): a width other than the one in force fails the beat
(R82, R107); otherwise the beat completes. -/
def State.answerBeat (s : State) (a : Answer) (ld : Half) (term : Bool) : State :=
  match s.engine.beat, s.engine.service with
  | some b, some v =>
    let wf := (s.window (v.beatWindow b)).inForce
    if wf.isSome && wf ≠ some a.width then s.failBeat .width
    else
      let s1 := s.noteAnswer v b a
      let v1 := { v with burst := if a.single && b.inBurst then 0 else v.burst }
      if s.cutWaiting v then s1.cutAfterBeat v1
      else
        let v2 := { v1 with termMark := v1.termMark || takesTerm v b term }
        if b.write then s1.writeDone v2 b else s1.readDone v2 b a.width ld
  | _, _ => s

/-- What may still arrive of the beat in flight once `r` has ended it: the answer after the expiry, and the expiry after an
answer, where a timer ran (R105, R106). -/
def State.rivalOf (s : State) (v : Service) (b : Beat) (r : Rival) : Option Rival :=
  match r with
  | .expiry => some .answer
  | .answer => if (s.window (v.beatWindow b)).ackLimit = 0 then none else some .expiry

/-- An answer or an expiry, `r`, is taken with the effect `f` on the beat in flight. One that may be late, of the beat that ended
last, has no effect if it is: R106, a free choice (log 30). With no beat in flight it has no effect (R78, log 24), and if it may be
the late one, it is. -/
def State.onBeat (s : State) (r : Rival) (f : State → State) : State :=
  match s.engine.beat, s.engine.service with
  | some b, some v =>
    let left := s.rivalOf v b r
    if s.engine.rival ≠ some r then f (s.setEngine { s.engine with rival := left })
    else if Config.arrivesLate s.choices then s.countChoice.setEngine { s.engine with rival := none }
    else f (s.countChoice.setEngine { s.engine with rival := left })
  | _, _ => s.pastLate r

/-! ## Abort of the ACTIVE context (R113 to R115) -/

/-- Abort pending reaches the engine. In READING the burst is cut after the beat in flight, and before the first strobe reading
stops at once (R113). A MOVE in WRITING drains what is buffered, from now on in DRAINING (log 16); a FILL finishes the unit under
way, and with none under way it ends (R114). DRAINING goes on. In PINNED the run ends at once (R115). -/
def State.abortReaches (s : State) : State :=
  match s.engine.service with
  | none => s
  | some v =>
    match s.engine.state with
    | .reading => if s.engine.beat.isNone then s.discardPartial.stopReading else s.setService { v with burst := 0 }
    | .writing =>
      match v.kind with
      | .move => s.setEngState .draining
      | _ => if s.engine.beat.isNone && !v.half then s.endService else s
    | .pinned => s.pinnedAbort
    | _ => s

end Sys2Proof.Machine
end

