-- ==== Sys2Proof/Machine/BusEvents.lean ====
section
/-! DEFINITION. The arrivals on the L-bus (chapters 4 to 6): the grant and its withdrawal, the answers and the time limit. -/

namespace Sys2Proof.Machine

/-- GRANT_ARRIVAL (R93): LGNT observed asserted. It is a grant arrival while LREQ is asserted and LOWN deasserted; otherwise the
level alone is recorded (R92, R93; log 24). It comes after LOWN has fallen, so an expiry that came together with the answer to a
beat before that has been taken (R106, log 30). -/
def execGrantArrival (s : State) : Host.Outcome State Fault Refusal :=
  let s1 := s.setEngine { s.engine with lgnt := true }
  .next (if s.engine.lreq && !s.engine.lown then (s1.pastLate .expiry).takeGrant else s1)

/-- GRANT_WITHDRAWAL (R95): LGNT observed deasserted. While LOWN is asserted the part finishes the beat in flight and then gives
the bus up. With no beat in flight it gives it up at once: before a selection none is made, and before its first strobe a service
yields with nothing read or written (log 7). -/
def execGrantWithdrawal (s : State) : Host.Outcome State Fault Refusal :=
  let s1 := s.setEngine { s.engine with lgnt := false }
  .next (if !s.engine.lown || s.engine.losing.isSome then s1
    else
      let g : GrantLoss :=
        match s.engine.service with
        | some v => { abortFirst := s.abortSet v, cutFirst := s.cutWaiting v }
        | none => { abortFirst := false, cutFirst := false }
      let s2 := s1.setEngine { s1.engine with losing := some g }
      if s.engine.beat.isSome then s2 else s2.settleLoss)

/-- BEAT_ANSWER (R79). -/
def execBeatAnswer (a : Answer) (ld : Half) (term : Bool) (s : State) : Host.Outcome State Fault Refusal :=
  .next (s.onBeat .answer fun t => t.answerBeat a ld term)

/-- FAULT_ANSWER (R104): FAULT and the two unnamed codes alike. -/
def execFaultAnswer (_code : FaultCode) (s : State) : Host.Outcome State Fault Refusal :=
  .next (s.onBeat .answer fun t => t.failBeat .fault)

/-- The acknowledge time limit of the beat in flight: the ack limit of the window on its side, where it is not 0 (R105). -/
def State.timerRuns (s : State) : Bool :=
  match s.engine.beat, s.engine.service with
  | some b, some v => (s.window (v.beatWindow b)).ackLimit ≠ 0
  | _, _ => false

/-- ACK_TIMEOUT (R105): the beat fails with TIMEOUT. With no beat in flight, or no limit on its window, nothing expires (log 9,
log 24): it may be the late expiry of the beat before, which then has arrived (R106, log 30). -/
def execAckTimeout (s : State) : Host.Outcome State Fault Refusal :=
  .next (if s.timerRuns then s.onBeat .expiry fun t => t.failBeat .timeout else s.pastLate .expiry)

end Sys2Proof.Machine
end

