-- ==== Sys2Proof/Machine/LineEvents.lean ====
section
/-! DEFINITION. The observations of the request lines (chapter 7). -/

namespace Sys2Proof.Machine

/-- REQUEST_OBSERVED_ASSERTED (R120): the level is recorded and reported to the Scheduler; on a line already asserted it changes
nothing (log 23). -/
def execRequestObservedAsserted (n : LineNo) (s : State) : Host.Outcome State Fault Refusal :=
  let l := s.line n
  let s1 := s.setLine n { l with level := true }
  .next (if l.bound.isSome then s1.reevaluate else s1)

/-- The observation of a deassertion marks a STREAM service of the bound context in flight (R120, R125). -/
def State.dropRequest (s : State) (c : CtxNo) : State :=
  match s.engine.service with
  | some v => if v.ctx = c ∧ v.trigger.isStream then s.setService { v with reqDropped := true } else s
  | none => s

/-- REQUEST_OBSERVED_DEASSERTED (R120): the level is recorded; on a bound line the armed flag is set, an in-flight STREAM
service is marked, and both are reported to the Scheduler. -/
def execRequestObservedDeasserted (n : LineNo) (s : State) : Host.Outcome State Fault Refusal :=
  let l := s.line n
  .next (match l.bound with
    | some c => ((s.setLine n { l with level := false, armed := true }).dropRequest c).reevaluate
    | none => s.setLine n { l with level := false })

end Sys2Proof.Machine
end

