-- ==== Sys2Proof/Machine/Flags.lean ====
section
/-! DEFINITION. The indications and the pins that are functions of the state: the status byte (R156), ATNn (R147), and the
lines the part drives for the beat in flight (R78, R91, R128, R132). -/

namespace Sys2Proof.Machine

/-- ATNh is asserted while CQh holds a record (R147). -/
def State.atn (s : State) (h : HostNo) : Bool := !(s.cq h).queue.isEmpty

/-- HLD: host h has a HELD context (R147). -/
def State.hld (s : State) (h : HostNo) : Bool := !(s.cq h).held.isEmpty

/-- BUSY: the port is EXECUTING or WITHDRAWING (Table 9-2). -/
def Port.busy (p : Port) : Bool := p.state = .executing || p.state = .withdrawing

/-- The eight indications at their places in the status byte (Table 10-13). -/
def State.statusByte (s : State) (h : HostNo) : Byte :=
  let p := s.port h
  bitAt 7 p.busy ||| bitAt 6 (p.state = .collecting) ||| bitAt 5 (!p.response.isEmpty) ||| bitAt 4 (s.atn h)
    ||| bitAt 3 (s.hld h) ||| bitAt 2 p.ovr ||| bitAt 1 (p.state = .withdrawing) ||| bitAt 0 p.err

/-- LSTB is asserted while a beat is in flight (R78). -/
def State.lstb (s : State) : Bool := s.engine.beat.isSome

/-- LBUR is asserted during a beat that another beat of its burst follows (R78). -/
def State.lbur (s : State) : Bool :=
  match s.engine.beat with
  | some b => b.bur
  | none => false

/-- LA23–LA0 for the beat in flight; none between beats and off the bus (log 10). -/
def State.la (s : State) : Option Addr := s.engine.beat.map fun b => b.addr

/-- LRW for the beat in flight: true for a write beat. -/
def State.lrwWrite (s : State) : Option Bool := s.engine.beat.map fun b => b.write

/-- LBYT for the beat in flight: true for a byte beat. -/
def State.lbyt (s : State) : Option Bool := s.engine.beat.map fun b => b.byte

/-- RAn is asserted during each device-side beat of the context bound to line n (R128). -/
def State.ra (s : State) (n : LineNo) : Bool :=
  match s.engine.beat with
  | some b => b.ra = some n
  | none => false

/-- The part drives TERM (R132). -/
def State.drivesTermNow (s : State) : Bool :=
  match s.engine.beat with
  | some b => b.term
  | none => false

end Sys2Proof.Machine
end

