-- ==== Sys2Proof/Machine/PortCommands.lean ====
section
/-! DEFINITION. The four accesses of a port, RSN and BAD_CMD, and PRSTn (chapter 9). -/

namespace Sys2Proof.Machine

/-- The port passes a command with its parameters to the block that owns what it names, and enters EXECUTING (R153); its collection
buffer is empty from then on (log 20). -/
def State.pass (s : State) (h : HostNo) (k : Cmd) (ps : List Byte) : State :=
  s.setPort h { s.port h with
    state := .executing, owed := 0, collect := [], passed := some { cmd := k, params := ps, waiting := none } }

/-- RSN executes: the port enters WITHDRAWING in place of EXECUTING, and the withdrawal of the issuer begins with its step 1
(R160, R161). -/
def State.resign (s : State) (h : HostNo) : State :=
  ((s.setPort h { s.port h with state := .withdrawing, owed := 0, collect := [] }).setWd h
    (some { step := .cut, byRsn := true })).reevaluate

/-- An unassigned code is completed at once with BAD_CMD as its one response byte (R153, R154). -/
def State.refuseCode (s : State) (h : HostNo) : State :=
  s.setPort h { s.port h with
    state := .idle, latch := none, owed := 0, collect := [], response := [Result.badCmd.code], err := true }

/-- A command byte taken in IDLE or COLLECTING: response and partial command are discarded, the byte is latched, and the port
collects, passes the command, or carries it out itself (R151, R153). -/
def State.latchCommand (s : State) (h : HostNo) (b : Byte) : State :=
  let s1 := s.setPort h { s.port h with latch := some b, response := [], collect := [], owed := 0 }
  match Cmd.ofCode b with
  | none => s1.refuseCode h
  | some .rsn => s1.resign h
  | some k =>
    if k.paramCount = 0 then s1.pass h k []
    else s1.setPort h { s1.port h with state := .collecting, owed := k.paramCount }

/-- A port takes a command byte in IDLE and in COLLECTING (R151). -/
def Port.takesCommand (p : Port) : Bool := p.state = .idle || p.state = .collecting

/-- COMMAND_BYTE (R151). -/
def execCommandByte (h : HostNo) (b : Byte) (s : State) : Host.Outcome State Fault Refusal :=
  let p := s.port h
  .next (match p.state with
    | .idle | .collecting => s.latchCommand h b
    | .executing | .withdrawing => s.setPort h { p with ovr := true }
    | .resetHeld => s)

/-- PARAMETER_BYTE (R152): the last byte owed executes the command with its parameters in the order written. -/
def execParameterByte (h : HostNo) (b : Byte) (s : State) : Host.Outcome State Fault Refusal :=
  let p := s.port h
  .next (match p.state with
    | .collecting =>
      let ps := p.collect ++ [b]
      match p.latch.bind Cmd.ofCode with
      | some k =>
        if p.owed ≤ 1 then s.pass h k ps
        else s.setPort h { p with collect := ps, owed := p.owed - 1 }
      | none => s.setPort h { p with collect := ps, owed := p.owed - 1 }
    | .idle | .executing | .withdrawing => s.setPort h { p with ovr := true }
    | .resetHeld => s)

/-- STATUS_READ (R156, R157): the eight indications as they stand; OVR is cleared after a read that returns it set. -/
def execStatusRead (h : HostNo) (s : State) : Host.Outcome State Fault Refusal :=
  let p := s.port h
  .next (match p.state with
    | .resetHeld => s.setPort h { p with pd := some 0 }
    | _ => s.setPort h { p with pd := some (s.statusByte h), ovr := false })

/-- RESPONSE_READ (R155): the oldest byte waiting is returned and removed; with none waiting FFH is returned and OVR set. -/
def execResponseRead (h : HostNo) (s : State) : Host.Outcome State Fault Refusal :=
  let p := s.port h
  .next (match p.state with
    | .resetHeld => s.setPort h { p with pd := some 0 }
    | _ =>
      match p.response with
      | r :: rest => s.setPort h { p with pd := some r, response := rest }
      | [] => s.setPort h { p with pd := some 0xFF, ovr := true })

/-- RSN (R160) as port `h` executes it. A port that can take no command executes none (log 2). -/
def execRsn (h : HostNo) (s : State) : Host.Outcome State Fault Refusal :=
  .next (if (s.port h).takesCommand then s.latchCommand h Cmd.rsn.code else s)

/-- BAD_CMD (R153) as port `h` completes it; the code is an unassigned one (log 2). -/
def execBadCmd (h : HostNo) (code : Byte) (s : State) : Host.Outcome State Fault Refusal :=
  .next (if (s.port h).takesCommand ∧ Cmd.ofCode code = none then s.latchCommand h code else s)

/-- PRST_ASSERTION (R159): the port discards its partial command and its response and enters RESET-HELD; a withdrawal begins
where none is in progress. A command not yet taken by its block is taken before step 1 (R163, log 3). -/
def execPrstAssertion (h : HostNo) (s : State) : Host.Outcome State Fault Refusal :=
  let p := s.port h
  .next (if p.state = .resetHeld then s
    else
      let kept := s.toTake h
      let s1 := s.setPort h { p with
        state := .resetHeld, latch := none, owed := 0, collect := [], response := [], passed := kept }
      match s.wd h with
      | some w => s1.setWd h (some { w with byRsn := false })
      | none =>
        if kept.isSome then s1.setWd h (some { step := .begin, byRsn := false })
        else (s1.setWd h (some { step := .cut, byRsn := false })).reevaluate)

/-- PRST_RELEASE (R162): IDLE with OVR and ERR clear where the withdrawal is complete, WITHDRAWING otherwise. -/
def execPrstRelease (h : HostNo) (s : State) : Host.Outcome State Fault Refusal :=
  let p := s.port h
  .next (if p.state = .resetHeld then
      match s.wd h with
      | some _ => s.setPort h { p with state := .withdrawing }
      | none => s.setPort h { p with
          state := .idle, latch := none, owed := 0, collect := [], response := [], ovr := false, err := false }
    else s)

end Sys2Proof.Machine
end

