-- ==== Sys2Proof/Machine/QueueCommands.lean ====
section
/-! DEFINITION. The commands of the Scheduler, WGT (chapter 3), and of the Completion Unit, TKE and PEK (chapter 8). -/

namespace Sys2Proof.Machine

/-- WGT (R56): a weight from 1 to 4; a changed weight rebuilds the ring (R58). -/
def State.setOwnWeight (h : HostNo) (ps : List Byte) (s : State) : State × Reply :=
  let n := (param ps 0).toNat
  if n = 0 ∨ 4 < n then (s, .of .badParam)
  else if s.weight h = n then (s, .of .ok)
  else ((s.setWeight h n).rebuild, .of .ok)

/-- TKE (R144, R143): the head record is removed and returned, and the head of the held list is posted. -/
def State.takeRecord (h : HostNo) (_ps : List Byte) (s : State) : State × Reply :=
  match (s.cq h).queue with
  | [] => (s, .of .empty)
  | r :: rest =>
    (((s.setCq h { s.cq h with queue := rest }).releaseHeld h).reevaluate, .answer (recordResponse r))

/-- PEK (R145): the head record is returned and nothing changes. -/
def State.peekRecord (h : HostNo) (_ps : List Byte) (s : State) : State × Reply :=
  match (s.cq h).queue with
  | [] => (s, .of .empty)
  | r :: _ => (s, .answer (recordResponse r))

/-- WGT. -/
def execWgt (h : HostNo) (s : State) : Host.Outcome State Fault Refusal := .next (s.take h .wgt (State.setOwnWeight h))

/-- TKE. -/
def execTke (h : HostNo) (s : State) : Host.Outcome State Fault Refusal := .next (s.take h .tke (State.takeRecord h))

/-- PEK. -/
def execPek (h : HostNo) (s : State) : Host.Outcome State Fault Refusal := .next (s.take h .pek (State.peekRecord h))

end Sys2Proof.Machine
end

