-- ==== Sys2Proof/Machine/SystemEvents.lean ====
section
/-! DEFINITION. RESET, and the steps of a withdrawal (R161): the cut and the steps that follow it. -/

namespace Sys2Proof.Machine

/-- RESET: every block is in its reset state. The queue of commands that wait and the model's counter are not the part's and
stay (log 15). -/
def execReset (s : State) : Host.Outcome State Fault Refusal :=
  .next { State.reset with pending := s.pending, choices := s.choices }

/-- The host whose ACTIVE context the service in flight is for. -/
def State.servedHost (s : State) : Option HostNo :=
  match s.engine.service with
  | some v => (s.ctx v.ctx).owner
  | none => none

/-- Step 2 of the withdrawal of host `h`, whose context is ACTIVE, reaches the engine: with a beat in flight it waits for that
beat, and else the cut is made at once (R118, log 4). -/
def State.cutStep (s : State) (h : HostNo) (w : Withdrawal) : State :=
  if s.engine.beat.isSome then s.setWd h (some { w with step := .cutting }) else s.cutService h

/-- SERVICE_CUT (R118): the service of a host whose withdrawal has come to step 2 is cut. -/
def execServiceCut (s : State) : Host.Outcome State Fault Refusal :=
  .next (match s.servedHost with
    | some h =>
      match s.wd h with
      | some w => if w.step = .cut ∨ w.step = .cutting then s.cutStep h w else s
      | none => s
    | none => s)

/-- The next step of the withdrawal of host `h` is taken by its block (R161). -/
def State.nextStep (s : State) (h : HostNo) (w : Withdrawal) : State :=
  match w.step with
  | .begin => if (s.port h).passed.isSome then s else s.beginDue h
  | .cut | .cutting =>
    if s.servedHost = some h then s.cutStep h w else s.setWd h (some { w with step := .contexts })
  | .contexts => ((s.freeContexts h).setWd h (some { w with step := .windows })).reevaluate
  | .windows => (s.withdrawWindows h).setWd h (some { w with step := .queue })
  | .queue => (s.emptyQueue h).setWd h (some { w with step := .weight })
  | .weight => ((s.resetWeight h).completeWithdrawal h).reevaluate

/-- NEXT_WITHDRAWAL_STEP (R161). -/
def execNextWithdrawalStep (h : HostNo) (s : State) : Host.Outcome State Fault Refusal :=
  .next (match s.wd h with
    | some w => s.nextStep h w
    | none => s)

end Sys2Proof.Machine
end

