-- ==== Sys2Proof/Machine/ContextCommands.lean ====
section
/-! DEFINITION. The commands of the Context Table (chapter 1): CLM to LNK, STA, SUS, RSM, ABT, QRY. -/

namespace Sys2Proof.Machine

/-- The three tests of R8, in order, for a command accepted in the states `accept`: the context named, or the result. -/
def State.ctxTest (s : State) (h : HostNo) (b : Byte) (accept : CtxState → Bool) : Except Result CtxNo :=
  match ctxOf b with
  | none => .error .badParam
  | some c =>
    let x := s.ctx c
    if x.state = .free ∨ x.owner ≠ some h then .error .notOwner
    else if accept x.state then .ok c
    else .error .badState

/-- Accepted in CLAIMED alone (Table 1-5). -/
def onlyClaimed (t : CtxState) : Bool := t = .claimed

/-- A command that passes R8 and then acts on the context it names; a refusal answers its one result byte. -/
def State.onCtx (s : State) (h : HostNo) (ps : List Byte) (accept : CtxState → Bool)
    (run : CtxNo → State × Reply) : State × Reply :=
  match s.ctxTest h (param ps 0) accept with
  | .error r => (s, .of r)
  | .ok c => run c

/-- A set command: with its parameters in range it writes the record and answers OK; else BAD_PARAM (section 1.6). -/
def State.setPart (s : State) (c : CtxNo) (x : Option Ctx) : State × Reply :=
  match x with
  | some x => (s.setCtx c x, .of .ok)
  | none => (s, .of .badParam)

/-! ## Claiming and releasing -/

/-- A context as CLM leaves it (R9). -/
def Ctx.claimedBy (x : Ctx) (h : HostNo) : Ctx :=
  { x with state := .claimed, owner := some h, parts := Parts.empty, curSrc := 0, curDst := 0, residual := 0, moved := 0,
           abortPending := false, suspendPending := false, pendingEnd := none }

/-- The lowest-numbered FREE context (R9). -/
def State.lowestFree (s : State) : Option CtxNo := allCtxs.find? fun c => (s.ctx c).state = .free

/-- A claim that is taken (R9): two response bytes, OK and the number. -/
def State.takeClaim (s : State) (h : HostNo) (c : CtxNo) : State × Reply :=
  (s.setCtx c ((s.ctx c).claimedBy h), .answer [Result.ok.code, BitVec.ofNat 8 c.val])

/-- A claim that is refused answers two bytes, the second FFH (R9). -/
def refuseTwo (r : Result) : Reply := .answer [r.code, 0xFF]

/-- CLM (R9). -/
def State.claim (h : HostNo) (ps : List Byte) (s : State) : State × Reply :=
  let b := param ps 0
  if b = 0xFF then
    match s.lowestFree with
    | some c => s.takeClaim h c
    | none => (s, refuseTwo .noContext)
  else match ctxOf b with
    | none => (s, refuseTwo .badParam)
    | some c => if (s.ctx c).state = .free then s.takeClaim h c else (s, refuseTwo .inUse)

/-- REL (R10). -/
def State.release (h : HostNo) (ps : List Byte) (s : State) : State × Reply :=
  s.onCtx h ps onlyClaimed fun c => (s.setCtx c (s.ctx c).freed, .of .ok)

/-! ## Programming the parts -/

/-- The 24-bit address of SRC and DST, in P3 to P5. -/
def addrParam (ps : List Byte) : Addr := addrOf (param ps 2) (param ps 3) (param ps 4)

/-- SRC (R11). -/
def State.setSource (h : HostNo) (ps : List Byte) (s : State) : State × Reply :=
  s.onCtx h ps onlyClaimed fun c =>
    let x := s.ctx c
    s.setPart c (match winOf (param ps 1), stepOf (param ps 5) with
      | some w, some st => some { x with
          srcWin := w, srcStart := addrParam ps, srcStep := st, curSrc := addrParam ps
          parts := { x.parts with source := true } }
      | _, _ => none)

/-- DST (R11). -/
def State.setDest (h : HostNo) (ps : List Byte) (s : State) : State × Reply :=
  s.onCtx h ps onlyClaimed fun c =>
    let x := s.ctx c
    s.setPart c (match winOf (param ps 1), stepOf (param ps 5) with
      | some w, some st => some { x with
          dstWin := w, dstStart := addrParam ps, dstStep := st, curDst := addrParam ps
          parts := { x.parts with dest := true } }
      | _, _ => none)

/-- CNT (R12). -/
def State.setCount (h : HostNo) (ps : List Byte) (s : State) : State × Reply :=
  s.onCtx h ps onlyClaimed fun c =>
    let x := s.ctx c
    let n := halfOf (param ps 1) (param ps 2)
    s.setPart c (if n = 0 then none
      else some { x with count := n, residual := n, parts := { x.parts with count := true } })

/-- MOD (R13). -/
def State.setMode (h : HostNo) (ps : List Byte) (s : State) : State × Reply :=
  s.onCtx h ps onlyClaimed fun c =>
    let x := s.ctx c
    s.setPart c (match modeOf (param ps 1), triggerOf (param ps 2) with
      | some m, some t => some { x with
          kind := m.kind, unit := m.unit, rep := m.rep, priority := m.priority, trigger := t
          parts := { x.parts with mode := true } }
      | _, _ => none)

/-- PAT (R14). -/
def State.setPattern (h : HostNo) (ps : List Byte) (s : State) : State × Reply :=
  s.onCtx h ps onlyClaimed fun c =>
    let x := s.ctx c
    s.setPart c (some { x with
      pattern := halfOf (param ps 1) (param ps 2), mask := halfOf (param ps 3) (param ps 4)
      parts := { x.parts with pattern := true } })

/-- LNK (R15): the tests of its own in order, then the link written or removed. -/
def State.setLink (h : HostNo) (ps : List Byte) (s : State) : State × Reply :=
  s.onCtx h ps onlyClaimed fun c =>
    let x := s.ctx c
    let b := param ps 1
    if b = 0xFF then s.setPart c (some { x with parts := { x.parts with link := false } })
    else match ctxOf b with
      | none => (s, .of .badParam)
      | some d =>
        if d = c then (s, .of .badParam)
        else if (s.ctx d).state = .free ∨ (s.ctx d).owner ≠ some h then (s, .of .notOwner)
        else s.setPart c (some { x with link := d, parts := { x.parts with link := true } })

/-! ## Starting, suspending, resuming, aborting -/

/-- STA (R16, R17). -/
def State.start (h : HostNo) (ps : List Byte) (s : State) : State × Reply :=
  s.onCtx h ps (fun _ => true) fun c =>
    match s.startCheck c h with
    | some r => (s, .of r)
    | none => ((s.takeStart c h).reevaluate, .of .ok)

/-- SUS (R19, R116): a READY context is suspended at once; on the ACTIVE context suspend pending is set and the command waits. -/
def State.suspend (h : HostNo) (ps : List Byte) (s : State) : State × Reply :=
  s.onCtx h ps (fun t => t = .ready || t = .active) fun c =>
    let x := s.ctx c
    if x.state = .active then (s.setCtx c { x with suspendPending := true }, .wait c)
    else (((s.leaveReady h c).setCtx c { x with state := .suspended }).reevaluate, .of .ok)

/-- RSM (R20). -/
def State.resume (h : HostNo) (ps : List Byte) (s : State) : State × Reply :=
  s.onCtx h ps (fun t => t = .suspended) fun c =>
    (((s.setCtx c { s.ctx c with state := .ready }).enterTail h c).reevaluate, .of .ok)

/-- The run end of an ABT on a READY or SUSPENDED context (R21). -/
def abortEnd : RunEnd := { cause := .abort, wph := false, drainLost := false, dataLost := false, faultAddr := none }

/-- ABT (R21, R113 to R115): a READY or SUSPENDED context ends its run at once; on the ACTIVE context abort pending is set and
reaches the engine, and the command waits unless the service has ended by it, as in PINNED and before its first strobe: the
end of the run clears abort pending (R7). -/
def State.abort (h : HostNo) (ps : List Byte) (s : State) : State × Reply :=
  s.onCtx h ps (fun t => t = .ready || t = .active || t = .suspended) fun c =>
    let x := s.ctx c
    if x.state = .active then
      let t := (s.setCtx c { x with abortPending := true }).abortReaches
      (t, if (t.ctx c).abortPending then .wait c else .of .ok)
    else (((s.leaveReady h c).runEnds c h abortEnd).reevaluate, .of .ok)

/-- QRY (R24): the 14-byte report; no state changes. -/
def State.query (h : HostNo) (ps : List Byte) (s : State) : State × Reply :=
  s.onCtx h ps (fun _ => true) fun c => (s, .answer (qryBytes (s.ctx c) (s.armedShown c)))

/-! ## The commands as the Context Table takes them -/

/-- CLM. -/
def execClm (h : HostNo) (s : State) : Host.Outcome State Fault Refusal := .next (s.take h .clm (State.claim h))

/-- REL. -/
def execRel (h : HostNo) (s : State) : Host.Outcome State Fault Refusal := .next (s.take h .rel (State.release h))

/-- SRC. -/
def execSrc (h : HostNo) (s : State) : Host.Outcome State Fault Refusal := .next (s.take h .src (State.setSource h))

/-- DST. -/
def execDst (h : HostNo) (s : State) : Host.Outcome State Fault Refusal := .next (s.take h .dst (State.setDest h))

/-- CNT. -/
def execCnt (h : HostNo) (s : State) : Host.Outcome State Fault Refusal := .next (s.take h .cnt (State.setCount h))

/-- MOD. -/
def execMod (h : HostNo) (s : State) : Host.Outcome State Fault Refusal := .next (s.take h .mod (State.setMode h))

/-- PAT. -/
def execPat (h : HostNo) (s : State) : Host.Outcome State Fault Refusal := .next (s.take h .pat (State.setPattern h))

/-- LNK. -/
def execLnk (h : HostNo) (s : State) : Host.Outcome State Fault Refusal := .next (s.take h .lnk (State.setLink h))

/-- STA. -/
def execSta (h : HostNo) (s : State) : Host.Outcome State Fault Refusal := .next (s.take h .sta (State.start h))

/-- SUS. -/
def execSus (h : HostNo) (s : State) : Host.Outcome State Fault Refusal := .next (s.take h .sus (State.suspend h))

/-- RSM. -/
def execRsm (h : HostNo) (s : State) : Host.Outcome State Fault Refusal := .next (s.take h .rsm (State.resume h))

/-- ABT. -/
def execAbt (h : HostNo) (s : State) : Host.Outcome State Fault Refusal := .next (s.take h .abt (State.abort h))

/-- QRY. -/
def execQry (h : HostNo) (s : State) : Host.Outcome State Fault Refusal := .next (s.take h .qry (State.query h))

end Sys2Proof.Machine
end

