-- ==== Sys2Proof/Machine/WindowCommands.lean ====
section
/-! DEFINITION. The commands of the Window Table (chapter 2): OPW, CLW, QWN. -/

namespace Sys2Proof.Machine

/-- The lowest-numbered CLOSED window (R32). -/
def State.lowestClosed (s : State) : Option WinNo := allWins.find? fun w => (s.window w).state = .closed

/-- A window as OPW leaves it: the attributes of the parameters, the share mask with the issuer added, nothing learned, no
reference (R32). -/
def openedBy (h : HostNo) (base limit : Addr) (at' : AttrFields) (share : BitVec 4) (ack : Byte) : Window :=
  { state := .opened, creator := some h, base := base, limit := limit, width := at'.width
    burstAllowed := at'.burstAllowed, sideEffect := at'.sideEffect, ackLimit := ack
    share := share ||| hostBit h, learned := none, demoted := false, refs := 0 }

/-- The window that an OPW takes, by its first parameter: a numbered CLOSED one, or the lowest for FFH (R31, test 5; R32). -/
def State.openTarget (s : State) (b : Byte) : Except Result WinNo :=
  if b = 0xFF then
    match s.lowestClosed with
    | some w => .ok w
    | none => .error .noWindow
  else match winOf b with
    | some w => if (s.window w).state = .closed then .ok w else .error .inUse
    | none => .error .badParam

/-- OPW (R31, R32): the tests in order, and the window opened. -/
def State.openWindow (h : HostNo) (ps : List Byte) (s : State) : State × Reply :=
  let b := param ps 0
  let base := addrOf (param ps 1) (param ps 2) (param ps 3)
  let limit := addrOf (param ps 4) (param ps 5) (param ps 6)
  if b ≠ 0xFF ∧ winOf b = none then (s, refuseTwo .badParam)
  else if limit < base then (s, refuseTwo .badParam)
  else match attrOf (param ps 7), shareOf (param ps 8) with
    | some a, some m =>
      match s.openTarget b with
      | .ok w => (s.setWindow w (openedBy h base limit a m (param ps 9)), .answer [Result.ok.code, BitVec.ofNat 8 w.val])
      | .error r => (s, refuseTwo r)
    | _, _ => (s, refuseTwo .badParam)

/-- CLW (R35, Table 2-4). -/
def State.closeWindow (h : HostNo) (ps : List Byte) (s : State) : State × Reply :=
  match winOf (param ps 0) with
  | none => (s, .of .badParam)
  | some w =>
    let x := s.window w
    if x.state = .closed then (s, .of .noWindow)
    else if x.creator ≠ some h then (s, .of .notOwner)
    else if 0 < x.refs then (s, .of .windowInUse)
    else (s.setWindow w x.close, .of .ok)

/-- QWN (R34): the 13-byte report to the creator or to a host in the share mask; no state changes. -/
def State.queryWindow (h : HostNo) (ps : List Byte) (s : State) : State × Reply :=
  match winOf (param ps 0) with
  | none => (s, .of .badParam)
  | some w =>
    let x := s.window w
    if x.state = .closed then (s, .of .noWindow)
    else if x.creator = some h ∨ x.share.getLsbD h.val = true then (s, .answer (qwnBytes x))
    else (s, .of .denied)

/-- OPW. -/
def execOpw (h : HostNo) (s : State) : Host.Outcome State Fault Refusal := .next (s.take h .opw (State.openWindow h))

/-- CLW. -/
def execClw (h : HostNo) (s : State) : Host.Outcome State Fault Refusal := .next (s.take h .clw (State.closeWindow h))

/-- QWN. -/
def execQwn (h : HostNo) (s : State) : Host.Outcome State Fault Refusal := .next (s.take h .qwn (State.queryWindow h))

end Sys2Proof.Machine
end

