-- ==== Sys2Proof/Machine/Dispatch.lean ====
section
/-! DEFINITION. One arm per row of spec/opcode_table.json: what a command does to everything but the queue. -/

namespace Sys2Proof.Machine

def exec (i : Instr) (s : State) : Host.Outcome State Fault Refusal :=
  match i with
  | .commandByte h b => Sys2Proof.Machine.execCommandByte h b s
  | .parameterByte h b => Sys2Proof.Machine.execParameterByte h b s
  | .statusRead h => Sys2Proof.Machine.execStatusRead h s
  | .responseRead h => Sys2Proof.Machine.execResponseRead h s
  | .clm h => Sys2Proof.Machine.execClm h s
  | .rel h => Sys2Proof.Machine.execRel h s
  | .src h => Sys2Proof.Machine.execSrc h s
  | .dst h => Sys2Proof.Machine.execDst h s
  | .cnt h => Sys2Proof.Machine.execCnt h s
  | .mod h => Sys2Proof.Machine.execMod h s
  | .pat h => Sys2Proof.Machine.execPat h s
  | .lnk h => Sys2Proof.Machine.execLnk h s
  | .sta h => Sys2Proof.Machine.execSta h s
  | .sus h => Sys2Proof.Machine.execSus h s
  | .rsm h => Sys2Proof.Machine.execRsm h s
  | .abt h => Sys2Proof.Machine.execAbt h s
  | .qry h => Sys2Proof.Machine.execQry h s
  | .opw h => Sys2Proof.Machine.execOpw h s
  | .clw h => Sys2Proof.Machine.execClw h s
  | .qwn h => Sys2Proof.Machine.execQwn h s
  | .wgt h => Sys2Proof.Machine.execWgt h s
  | .tke h => Sys2Proof.Machine.execTke h s
  | .pek h => Sys2Proof.Machine.execPek h s
  | .rsn h => Sys2Proof.Machine.execRsn h s
  | .badCmd h code => Sys2Proof.Machine.execBadCmd h code s
  | .prstAssertion h => Sys2Proof.Machine.execPrstAssertion h s
  | .prstRelease h => Sys2Proof.Machine.execPrstRelease h s
  | .reset => Sys2Proof.Machine.execReset s
  | .grantArrival => Sys2Proof.Machine.execGrantArrival s
  | .grantWithdrawal => Sys2Proof.Machine.execGrantWithdrawal s
  | .beatAnswer a ld term => Sys2Proof.Machine.execBeatAnswer a ld term s
  | .faultAnswer code => Sys2Proof.Machine.execFaultAnswer code s
  | .ackTimeout => Sys2Proof.Machine.execAckTimeout s
  | .requestObservedAsserted n => Sys2Proof.Machine.execRequestObservedAsserted n s
  | .requestObservedDeasserted n => Sys2Proof.Machine.execRequestObservedDeasserted n s
  | .serviceCut => Sys2Proof.Machine.execServiceCut s
  | .nextWithdrawalStep h => Sys2Proof.Machine.execNextWithdrawalStep h s

end Sys2Proof.Machine
end

