-- ==== Sys2Proof/Safety.lean ====
section
/-! DEFINITION. What a sound state of the part is, in the terms the statements use: one predicate per block, each from the
rules that say what always holds. A safe step takes a sound state to a sound state. -/

namespace Sys2Proof.Machine

/-! ## Scheduler -/

/-- The weights lie from 1 to 4, the ring is the one they give, and the pointer is a slot of it (R55, R57). -/
def State.ringSound (s : State) : Prop :=
  (∀ h : HostNo, 1 ≤ s.weight h ∧ s.weight h ≤ 4) ∧
    s.sched.ring = ringOf s.sched.weights ∧ s.sched.pointer < s.sched.ring.length

/-! ## Window Table -/

/-- A window record is as R29 describes its state: CLOSED without creator, sharers or references; OPEN with a creator who
shares it; ORPHAN without creator, referenced (R29, R32, R45). An open range is not empty (R31), and a width is learned on
an AUTO window alone (R42). -/
def Window.sound (w : Window) : Prop :=
  (w.state = .closed → w.creator = none ∧ w.share = 0 ∧ w.refs = 0) ∧
  (w.state = .opened → ∃ h : HostNo, w.creator = some h ∧ w.share.getLsbD h.val = true) ∧
  (w.state = .orphan → w.creator = none ∧ 1 ≤ w.refs) ∧
  (w.state ≠ .closed → w.base ≤ w.limit) ∧
  (w.width ≠ .auto → w.learned = none)

/-- Every window record is sound. -/
def State.windowsSound (s : State) : Prop := ∀ w : WinNo, (s.window w).sound

/-! ## Completion Unit -/

/-- Each completion queue holds at most 8 records (R140). -/
def State.queuesBounded (s : State) : Prop := ∀ h : HostNo, (s.cq h).queue.length ≤ queueDepth

/-! ## Host Port Units -/

/-- A withdrawal whose step 1 has still to be handed over (R163). -/
def Withdrawal.notBegun (o : Option Withdrawal) : Bool :=
  match o with
  | some w => w.step = .begin
  | none => false

/-- A port and the withdrawal of its host fit together (R150 to R155, R159 to R163). -/
structure PortSound (p : Port) (o : Option Withdrawal) : Prop where
  /-- In COLLECTING the bytes collected and owed are those of the latched command. -/
  collecting : p.state = .collecting →
    0 < p.owed ∧ (p.latch.bind Cmd.ofCode).map Cmd.paramCount = some (p.collect.length + p.owed)
  /-- Outside COLLECTING nothing is owed and nothing is collected. -/
  resting : p.state ≠ .collecting → p.owed = 0 ∧ p.collect = []
  /-- Response bytes wait in IDLE alone (R155). -/
  response : p.state ≠ .idle → p.response = []
  /-- The response buffer holds at most 16 bytes (R150). -/
  room : p.response.length ≤ 16
  /-- A withdrawal is in progress in WITHDRAWING, and in RESET-HELD or WITHDRAWING alone (R159, R160, R162). -/
  withdrawing : p.state = .withdrawing → o.isSome = true
  withdrawn : o.isSome = true → p.state = .withdrawing ∨ p.state = .resetHeld
  /-- A command is with its block in EXECUTING, and otherwise only where a withdrawal waits for the block to take it. -/
  executing : p.state = .executing → p.passed.isSome = true
  passed : p.passed.isSome = true → p.state = .executing ∨ Withdrawal.notBegun o = true
  /-- A withdrawal that has not begun waits for a command that its block has not taken. -/
  begin : Withdrawal.notBegun o = true → p.passed.map Passed.waiting = some none

/-- Every port is sound. -/
def State.portsSound (s : State) : Prop := ∀ h : HostNo, PortSound (s.port h) (s.wd h)

/-! ## Transfer Engine -/

/-- The four service states (R65). -/
def EngState.serving : EngState → Bool
  | .reading | .writing | .draining | .pinned => true
  | .idle | .asking => false

/-- The service states in which the part is on the bus. -/
def EngState.onBus : EngState → Bool
  | .reading | .writing | .draining => true
  | .idle | .asking | .pinned => false

/-- A service record and the holding buffer fit together and fit the engine state (R69 to R73). -/
structure ServiceSound (v : Service) (e : Engine) : Prop where
  /-- The service length is at least one unit, and its units fit the holding buffer (R69). -/
  length : 1 ≤ v.length ∧ v.length * v.unit.bytes ≤ 16
  /-- A buffered unit has the bytes of a unit. -/
  units : ∀ b ∈ e.buffer, b.bytes.length = v.unit.bytes
  /-- A MOVE buffers what it has read and not committed; the other types buffer no complete unit (R70). -/
  buffered : v.kind = .move → v.unitsCommitted + e.buffer.length = v.unitsRead ∧ v.unitsRead ≤ v.length
  unbuffered : v.kind ≠ .move → e.buffer = []
  /-- READING has a unit to read, of a MOVE or a CHECK (R71, R73). -/
  reading : e.state = .reading → v.kind ≠ .fill
  reads : e.state = .reading → v.kind = .move → v.unitsRead < v.length
  checks : e.state = .reading → v.kind = .check → v.endDecided = none →
    v.unitsRead = v.unitsCommitted ∧ v.unitsCommitted < v.length
  /-- WRITING, DRAINING and PINNED have a unit to write, of a MOVE or a FILL (R71, R72, R99). -/
  writing : e.state ≠ .reading → v.kind ≠ .check
  moves : e.state ≠ .reading → v.kind = .move → e.buffer ≠ []
  fills : v.kind = .fill → v.unitsCommitted < v.length ∧ v.endDecided = none
  /-- A pinned service is a MOVE (R96). -/
  pinned : e.state = .pinned → v.kind = .move
  /-- A partial unit is the first byte of a two-byte unit being read (R70). -/
  partialByte : e.partialByte.isSome = true → e.state = .reading ∧ v.half = true
  /-- An end is decided before the service ends in a CHECK burst (R87) and in a drain (R131), which may be PINNED. -/
  decided : v.endDecided ≠ none →
    (e.state = .reading ∧ v.kind = .check ∧ e.partialByte = none) ∨ e.state = .draining ∨
      (e.state = .pinned ∧ v.pinEnding = true)
  /-- A two-byte unit alone is ever half done. -/
  half : v.half = true → v.unit = .two
  /-- The beat in flight reads in READING and writes otherwise, and a word beat carries a whole two-byte unit (R80). -/
  direction : ∀ b ∈ e.beat, b.write = (e.state ≠ .reading : Bool) ∧ (b.byte = false → v.unit = .two ∧ v.half = false)
  /-- On the bus with no beat in flight the service is before its first strobe: nothing is read or written (R95, log 29). -/
  fresh : e.state.onBus = true → e.beat = none →
    e.state ≠ .draining ∧ v.unitsRead = 0 ∧ v.unitsCommitted = 0 ∧ v.half = false ∧ v.burst = 0 ∧ v.endDecided = none ∧
      v.failure = none ∧ v.writeOut = false ∧ e.partialByte = none

/-- The engine state, the service record, the buffer, the beat in flight and the bus lines fit together (R65, R70, R78, R91):
a beat is in flight on the bus alone, LOWN is asserted on the bus and in ASKING with the grant held (R94), and a grant is being
lost only while a beat is in flight (R95). -/
structure EngineSound (e : Engine) : Prop where
  serving : e.service.isSome = e.state.serving
  beat : e.beat.isSome = true → e.state.onBus = true
  own : e.state.onBus = true → e.lown = true
  owned : e.lown = true → e.state.onBus = true ∨ e.state = .asking
  request : e.lreq = true ↔ e.state ≠ .idle
  losing : e.losing.isSome = true → e.beat.isSome = true
  empty : e.service = none → e.buffer = [] ∧ e.partialByte = none
  service : ∀ v, e.service = some v → ServiceSound v e

/-! ## Context Table, with the lists that name contexts -/

/-- The contexts, the ready lists, the held lists and the service in flight fit together (R1, R7, R23, R48, R65, R140, R142). -/
structure TableSound (s : State) : Prop where
  owned : ∀ c, (s.ctx c).state = .free ↔ (s.ctx c).owner = none
  ready : ∀ h c, c ∈ s.readyList h ↔ (s.ctx c).state = .ready ∧ (s.ctx c).owner = some h
  readyOnce : ∀ h, (s.readyList h).Nodup
  active : ∀ c, (s.ctx c).state = .active ↔ s.engine.service.map Service.ctx = some c
  held : ∀ h c, c ∈ (s.cq h).held ↔ (s.ctx c).state = .held ∧ (s.ctx c).owner = some h
  heldOnce : ∀ h, (s.cq h).held.Nodup
  heldFull : ∀ h, (s.cq h).held ≠ [] → (s.cq h).queue.length = queueDepth
  pendingEnd : ∀ c, (s.ctx c).pendingEnd.isSome = true ↔ (s.ctx c).state = .held
  abortPending : ∀ c, (s.ctx c).abortPending = true → (s.ctx c).state = .active
  suspendPending : ∀ c, (s.ctx c).suspendPending = true → (s.ctx c).state = .active ∨ (s.ctx c).state = .held
  /-- A host past step 2 of its withdrawal has no ACTIVE context (R161). -/
  cut : ∀ h w c, s.wd h = some w → w.step = .contexts → (s.ctx c).owner = some h → (s.ctx c).state ≠ .active
  /-- A host past step 3 of its withdrawal owns nothing (R161). -/
  gone : ∀ h w c, s.wd h = some w → (w.step = .windows ∨ w.step = .queue ∨ w.step = .weight) → (s.ctx c).owner ≠ some h

/-- The record of a service repeats the parts of its context (R67), and names a run that has units left (R69). -/
structure ServiceMatches (x : Ctx) (v : Service) : Prop where
  kind : v.kind = x.kind
  unit : v.unit = x.unit
  trigger : v.trigger = x.trigger
  srcWin : v.srcWin = x.srcWin
  srcStep : v.srcStep = x.srcStep
  dstWin : v.dstWin = x.dstWin
  dstStep : v.dstStep = x.dstStep
  left : v.length ≤ v.unitsCommitted + x.residual.toNat

/-- The service in flight matches its context. -/
def State.serviceMatches (s : State) : Prop := ∀ v ∈ s.engine.service, ServiceMatches (s.ctx v.ctx) v

/-! ## Counts, references and bindings -/

/-- A context keeps its counts (R4, R12): moved plus residual is the count of the run in every started state, a run that
waits for the bus has units left, and a count that is present or in use is not 0. -/
structure CountsSound (x : Ctx) : Prop where
  sum : x.state.started = true → x.moved.toNat + x.residual.toNat = x.count.toNat
  waiting : x.state = .ready ∨ x.state = .suspended → x.residual ≠ 0
  counted : x.state.started = true ∨ x.parts.count = true → x.count ≠ 0

/-- Every context keeps its counts. -/
def State.countsSound (s : State) : Prop := ∀ c, CountsSound (s.ctx c)

/-- The (context, role) pairs in which started contexts name window `w` (R40). -/
def State.uses (s : State) (w : WinNo) : Nat :=
  (allCtxs.map fun c => if (s.ctx c).state.started then (s.ctx c).usedWindows.count w else 0).sum

/-- Every reference count is the number of uses of its window (R40). -/
def State.refsSound (s : State) : Prop := ∀ w, (s.window w).refs = s.uses w

/-- A line is bound to the started context whose trigger names it, and to no other (R6, R121). -/
def State.linesSound (s : State) : Prop :=
  ∀ n c, (s.line n).bound = some c ↔ (s.ctx c).state.started = true ∧ (s.ctx c).trigger.lineNo = some n

/-- The work-present indication is the truth (R62), and with no service in flight and the grant not held the part asks for the
bus exactly on it (R92). -/
def State.workSound (s : State) : Prop :=
  s.sched.work = s.anyEligible ∧
    (s.engine.state = .idle → s.anyEligible = false) ∧
    (s.engine.state = .asking → s.engine.lown = false → s.anyEligible = true)

/-! ## Windows fence every beat (R38, R78) -/

/-- The address `n` units after `a` on a side (R76). -/
def AddrStep.after (st : AddrStep) (u : UnitSize) (a : Addr) : Nat → Addr
  | 0 => a
  | n + 1 => st.next u (st.after u a n)

/-- A used side of a started context lies in its window: the window is not CLOSED, the span of the whole run is inside it,
two-byte units lie at even addresses, and the current address is that of the first unit not committed (R16, R38, R74). -/
structure SideFenced (w : Window) (u : UnitSize) (count moved : Half) (start current : Addr) (st : AddrStep) : Prop where
  live : w.state ≠ .closed
  range : w.covers (span start st count u) = true
  even : u = .two → start.getLsbD 0 = false
  current : current = st.after u start moved.toNat

/-- The used sides of a started context are fenced. -/
structure CtxFenced (s : State) (x : Ctx) : Prop where
  source : x.kind.usesSource = true → SideFenced (s.window x.srcWin) x.unit x.count x.moved x.srcStart x.curSrc x.srcStep
  dest : x.kind.usesDest = true → SideFenced (s.window x.dstWin) x.unit x.count x.moved x.dstStart x.curDst x.dstStep

/-- The service in flight works at the addresses of units of its run (R71, R73, R78, R87): the read address of a MOVE is ahead
of the current source address by the buffered units, that of a CHECK by the `d` units read and discarded, with `n` units of
the service still to read and the announced beats inside them; and the beat in flight is that of the unit under way. -/
structure ServiceFenced (s : State) (x : Ctx) (v : Service) : Prop where
  move : v.kind = .move → v.readAddr = v.srcStep.after v.unit x.curSrc s.engine.buffer.length
  check : v.kind = .check → ∃ d n : Nat,
    v.readAddr = v.srcStep.after v.unit x.curSrc d ∧ (v.endDecided = none → d = 0 ∧ n = v.length - v.unitsRead) ∧
    0 < n ∧ d + n ≤ x.residual.toNat ∧
    v.burst + 1 ≤ (phaseBeats v.unit (s.window v.srcWin).inForce v.half n v.readAddr).length ∧
    (v.burst ≠ 0 → (s.window v.srcWin).inForce.isSome = true)
  beat : ∀ b ∈ s.engine.beat,
    b.addr = (if b.write then x.curDst else v.readAddr) + (if v.half then 1 else 0)

/-- Every started context and the service in flight are fenced. -/
structure FenceSound (s : State) : Prop where
  contexts : ∀ c, (s.ctx c).state.started = true → CtxFenced s (s.ctx c)
  service : ∀ v ∈ s.engine.service, ServiceFenced s (s.ctx v.ctx) v

/-- The bytes of a beat lie inside the window `w`: the byte of a byte beat, both bytes of the aligned word of a word beat. -/
def Beat.inside (b : Beat) (w : Window) : Prop :=
  w.base.toNat ≤ b.addr.toNat ∧ b.addr.toNat + (if b.byte then 0 else 1) ≤ w.limit.toNat ∧
    (b.byte = false → b.addr.getLsbD 0 = false)

/-! ## The whole part -/

/-- The tables, the queues, the ports and the engine fit together: what the other predicates rest on. -/
structure CoreSound (s : State) : Prop where
  queues : s.queuesBounded
  ports : s.portsSound
  engine : EngineSound s.engine
  table : TableSound s
  service : s.serviceMatches
  counts : s.countsSound

/-- The state of the part is sound. -/
structure Sound (s : State) : Prop where
  core : CoreSound s
  ring : s.ringSound
  windows : s.windowsSound
  refs : s.refsSound
  lines : s.linesSound
  work : s.workSound
  fence : FenceSound s

/-! ## The terms of the statements -/

/-- Host `h`'s port is EXECUTING, and the command `k` with the parameter bytes `ps` is with its block, not yet taken (R153). -/
abbrev State.given (s : State) (h : HostNo) (k : Cmd) (ps : List Byte) : Prop :=
  (s.port h).state = .executing ∧ (s.port h).passed = some { cmd := k, params := ps, waiting := none }

/-- The command of port `h` completed with these response bytes, the result code first: the port is IDLE, its latch and its
passed command gone, and ERR is set for a result other than OK, 00H (R154, R158). -/
def State.completed (s : State) (h : HostNo) (bytes : List Byte) : State :=
  s.setPort h { s.port h with
    state := .idle, latch := none, response := bytes, err := decide (bytes.head? ≠ some 0x00), passed := none }

end Sys2Proof.Machine

namespace Sys2Proof

/-- The row by which the owning block takes a command (R153). -/
def Cmd.row (k : Cmd) (h : HostNo) : Instr :=
  match k with
  | .clm => .clm h
  | .rel => .rel h
  | .src => .src h
  | .dst => .dst h
  | .cnt => .cnt h
  | .mod => .mod h
  | .pat => .pat h
  | .lnk => .lnk h
  | .sta => .sta h
  | .sus => .sus h
  | .rsm => .rsm h
  | .abt => .abt h
  | .qry => .qry h
  | .tke => .tke h
  | .pek => .pek h
  | .opw => .opw h
  | .clw => .clw h
  | .qwn => .qwn h
  | .wgt => .wgt h
  | .rsn => .rsn h

/-- The states in which each command that names a context is accepted from the owner (Table 1-5); none for another command. -/
def Cmd.acceptedIn (k : Cmd) : Option (List Machine.CtxState) :=
  match k with
  | .rel | .src | .dst | .cnt | .mod | .pat | .lnk | .sta => some [.claimed]
  | .sus => some [.ready, .active]
  | .rsm => some [.suspended]
  | .abt => some [.ready, .active, .suspended]
  | .qry => some [.claimed, .ready, .active, .suspended, .held]
  | .clm | .tke | .pek | .opw | .clw | .qwn | .wgt | .rsn => none

end Sys2Proof

namespace Sys2Proof.Machine

/-- Host `h` owns context `c` (R1). -/
abbrev State.owns (s : State) (h : HostNo) (c : CtxNo) : Prop := (s.ctx c).state ≠ .free ∧ (s.ctx c).owner = some h

/-- The roles in which a type names a window (R6): how many of them name window `w`. -/
def Ctx.roles (x : Ctx) (w : WinNo) : Nat :=
  (if x.kind ≠ .fill ∧ x.srcWin = w then 1 else 0) + (if x.kind ≠ .check ∧ x.dstWin = w then 1 else 0)

/-- The span of a side lies inside the window (R16, R38), by the step. -/
abbrev SpanInside (w : Window) (start : Addr) (st : AddrStep) (count : Half) (u : UnitSize) : Prop :=
  (st = .inc → w.base.toNat ≤ start.toNat ∧ start.toNat + count.toNat * u.bytes ≤ w.limit.toNat + 1) ∧
    (st = .dec → w.base.toNat + count.toNat * u.bytes ≤ start.toNat + u.bytes ∧ start.toNat + u.bytes ≤ w.limit.toNat + 1) ∧
    (st = .hold → w.base.toNat ≤ start.toNat ∧ start.toNat + u.bytes ≤ w.limit.toNat + 1)

/-- Check 3 of a start passes: every part that the type makes mandatory is present (R5, Table 1-3). -/
abbrev Ctx.hasParts (x : Ctx) : Prop :=
  x.parts.mode = true ∧ x.parts.count = true ∧ (x.kind ≠ .fill → x.parts.source = true) ∧
    (x.kind ≠ .check → x.parts.dest = true) ∧ (x.kind ≠ .move → x.parts.pattern = true)

/-- Check 4 of a start passes: not both repeat and a link; no odd start address of a used side with two-byte units; no line side
that the type does not use (R16). -/
def Ctx.partsAgree (x : Ctx) : Prop :=
  ¬(x.rep = true ∧ x.parts.link = true) ∧
    (x.unit = .two → (x.kind ≠ .fill → x.srcStart.getLsbD 0 = false) ∧ (x.kind ≠ .check → x.dstStart.getLsbD 0 = false)) ∧
    ∀ n d p, x.trigger = .line n d p → (d = .source → x.kind ≠ .fill) ∧ (d = .dest → x.kind ≠ .check)

/-- Check 5 of a start passes: no window named in a used role is CLOSED (R37). -/
abbrev State.windowsLive (s : State) (x : Ctx) : Prop := ∀ w, 0 < x.roles w → (s.window w).state ≠ .closed

/-- Check 6 of a start passes: host `h` is in the share mask of every window named in a used role (R37). -/
abbrev State.windowsShared (s : State) (x : Ctx) (h : HostNo) : Prop :=
  ∀ w, 0 < x.roles w → (s.window w).share.getLsbD h.val = true

/-- Check 7 of a start passes: the span of every used side lies inside its window (R38). -/
abbrev State.spansInside (s : State) (x : Ctx) : Prop :=
  (x.kind ≠ .fill → SpanInside (s.window x.srcWin) x.srcStart x.srcStep x.count x.unit) ∧
    (x.kind ≠ .check → SpanInside (s.window x.dstWin) x.dstStart x.dstStep x.count x.unit)

/-- Check 8 of a start passes: the line of a LINE trigger is bound to no context (R121). -/
abbrev State.lineFree (s : State) (x : Ctx) : Prop := ∀ n, x.trigger.lineNo = some n → (s.line n).bound = none

/-- The checks 2 to 8 of a start of context `c` for host `h` all pass (R16). -/
structure MayStart (s : State) (c : CtxNo) (h : HostNo) : Prop where
  claimed : (s.ctx c).state = .claimed
  parts : (s.ctx c).hasParts
  agree : (s.ctx c).partsAgree
  live : s.windowsLive (s.ctx c)
  shared : s.windowsShared (s.ctx c) h
  inside : s.spansInside (s.ctx c)
  line : s.lineFree (s.ctx c)

/-- The state `t` is `s` with context `c` of host `h` started, by STA or by chain activation (R17, R18): the run begins, the
references and the line are taken, and the context stands at the tail of the ready list. What a start leaves alone is not said
here. -/
structure Started (s t : State) (c : CtxNo) (h : HostNo) : Prop where
  ctx : t.ctx c = { s.ctx c with
    state := .ready, abortPending := false, suspendPending := false, residual := (s.ctx c).count, moved := 0
    curSrc := if (s.ctx c).kind = .fill then (s.ctx c).curSrc else (s.ctx c).srcStart
    curDst := if (s.ctx c).kind = .check then (s.ctx c).curDst else (s.ctx c).dstStart }
  windows : ∀ w, t.window w = { s.window w with refs := (s.window w).refs + (s.ctx c).roles w }
  lines : ∀ n, t.line n =
    if (s.ctx c).trigger.lineNo = some n then { s.line n with bound := some c, armed := true } else s.line n
  listed : ∀ g, t.readyList g = if g = h then s.readyList h ++ [c] else s.readyList g

/-- The failure with cause `k` that a command brings to the beat in flight (R103, R105, R107): FAULT by a failing code, TIMEOUT
where the window of the beat has a limit, WIDTH by an answer of another width than the one in force. The arrival cannot be a
late one of the beat before (R106, log 30). -/
def State.failsWith (s : State) (i : Instr) (k : Cause) : Prop :=
  ∃ v b, s.engine.service = some v ∧ s.engine.beat = some b ∧
    match i with
    | .faultAnswer _ => k = .fault ∧ s.engine.rival ≠ some .answer
    | .ackTimeout => k = .timeout ∧ s.engine.rival ≠ some .expiry ∧ (s.window (v.beatWindow b)).ackLimit ≠ 0
    | .beatAnswer a _ _ =>
      k = .width ∧ s.engine.rival ≠ some .answer ∧ (s.window (v.beatWindow b)).inForce.isSome = true ∧
        (s.window (v.beatWindow b)).inForce ≠ some a.width
    | _ => False

/-- An answer of width `a` completes the beat in flight with nothing learned and no burst cut: an ANS answer of the width in
force (R82), which cannot be a late one of the beat before (R106, log 30). -/
abbrev State.plainAnswer (s : State) (v : Service) (b : Beat) (a : Answer) : Prop :=
  a.single = false ∧ (s.window (v.beatWindow b)).inForce = some a.width ∧ s.engine.rival ≠ some .answer

/-- No withdrawal of the owner of the service in flight has come to the engine (R118). -/
abbrev State.uncut (s : State) (v : Service) : Prop := s.cutWaiting v = false

/-- The state `t` has the resources of context `c` in `s` released (R6): its references, with the close of an ORPHAN window whose
last reference goes (R45), and its line (R122). -/
structure Released (s t : State) (c : CtxNo) : Prop where
  windows : ∀ w, t.window w =
    if 0 < (s.ctx c).roles w ∧ (s.window w).state = .orphan ∧ (s.window w).refs ≤ (s.ctx c).roles w then
      { s.window w with state := .closed, creator := none, share := 0, learned := none, demoted := false, refs := 0 }
    else { s.window w with refs := (s.window w).refs - (s.ctx c).roles w }
  lines : ∀ n, t.line n =
    if (s.ctx c).trigger.lineNo = some n ∧ (s.line n).bound = some c then { s.line n with bound := none, armed := false }
    else s.line n

/-- The context at a posting without reload (R23): CLAIMED, with the final values of its run. -/
def Ctx.claimedAgain (x : Ctx) : Ctx := { x with state := .claimed, suspendPending := false, pendingEnd := none }

/-- The context at a reload (R138). -/
def Ctx.reloaded (x : Ctx) : Ctx :=
  { x with
    state := if x.suspendPending = true then .suspended else .ready
    curSrc := if x.kind = .fill then x.curSrc else x.srcStart
    curDst := if x.kind = .check then x.curDst else x.dstStart
    residual := x.count, moved := 0, suspendPending := false, pendingEnd := none }

/-- The address of the unit after the one at `a` (R76); past FFFFFFH and below 000000H a free value (log 27). -/
def unitAfter (a : Addr) (st : AddrStep) (u : UnitSize) : Addr :=
  match st, u with
  | .inc, .one => if a ≤ 0xFFFFFE then a + 1 else Config.addressBeyond false 1 a
  | .inc, .two => if a ≤ 0xFFFFFD then a + 2 else Config.addressBeyond false 2 a
  | .dec, .one => if 1 ≤ a then a - 1 else Config.addressBeyond true 1 a
  | .dec, .two => if 2 ≤ a then a - 2 else Config.addressBeyond true 2 a
  | .hold, _ => a

/-- The context after a commit (R74): residual, moved, and the current address of each used side. -/
def Ctx.committed (x : Ctx) : Ctx :=
  { x with
    residual := x.residual - 1, moved := x.moved + 1
    curSrc := if x.kind = .fill then x.curSrc else unitAfter x.curSrc x.srcStep x.unit
    curDst := if x.kind = .check then x.curDst else unitAfter x.curDst x.dstStep x.unit }

/-- The state after a write beat that commits its unit (R74), with the run end `e` decided so far, before the engine goes on. -/
def State.unitWritten (s : State) (v : Service) (b : Beat) (e : Option Cause) : State :=
  (s.setCtx v.ctx (s.ctx v.ctx).committed).setEngine { s.engine with
    beat := none, rival := s.rivalOf v b .answer, buffer := s.engine.buffer.tail
    service := some { v with half := false, termMark := false, unitsCommitted := v.unitsCommitted + 1, endDecided := e } }

/-- TERM counts for the unit of the beat in flight: sampled on an earlier beat of the unit, or now, on a device-side beat that the
part does not drive TERM on (R129). -/
def Service.unitMarked (v : Service) (b : Beat) (term : Bool) : Bool := v.termMark || (term && b.ra.isSome && !b.term)

/-- The beat in flight carries the last byte of its unit (R80). -/
abbrev Service.lastByte (v : Service) (b : Beat) : Prop := v.unit = .one ∨ b.byte = false ∨ v.half = true

/-- The service in flight removed with its buffer, the engine in ASKING (R70, R77). -/
def State.withoutService (s : State) : State :=
  s.setEngine { s.engine with state := .asking, service := none, buffer := [], partialByte := none, beat := none }

/-- The ring pointer moved past the ring mark, if it is still there, and the mark removed (R60). -/
def State.pointerMoved (s : State) : State :=
  match s.sched.mark with
  | some m => { s with sched := { s.sched with pointer := (m + 1) % s.sched.ring.length, mark := none } }
  | none => s

/-- The uses that started contexts of host `h` make of window `w`. -/
def State.usesBy (s : State) (h : HostNo) (w : WinNo) : Nat :=
  (allCtxs.map fun c =>
    if (s.ctx c).owner = some h ∧ (s.ctx c).state.started = true then (s.ctx c).roles w else 0).sum

/-- A context as withdrawal leaves it (R28): FREE, without owner, parts, pending flags and pending end. -/
def Ctx.withdrawn (x : Ctx) : Ctx :=
  { x with
    state := .free, owner := none, parts := ⟨false, false, false, false, false, false⟩
    abortPending := false, suspendPending := false, pendingEnd := none }

/-- The state `t` is `s` after the cut of the service of context `c` of host `h` (R118): the context is FREE with the values of its
last commit, its references and its line are given up, no outcome and no record is made, the pointer stays, no data is left in the
buffer, and the withdrawal goes on to its step 3. With the bus still owned the Scheduler then selects, else the part has left it. -/
structure CutMade (s t : State) (h : HostNo) (c : CtxNo) (w : Withdrawal) : Prop where
  freed : t.ctx c = (s.ctx c).withdrawn
  refs : ∀ u, (t.window u).refs = (s.window u).refs - (s.ctx c).roles u
  bound : ∀ n, (t.line n).bound =
    if (s.ctx c).trigger.lineNo = some n ∧ (s.line n).bound = some c then none else (s.line n).bound
  records : ∀ g, t.cq g = s.cq g
  ports : ∀ g, t.port g = s.port g
  pointer : t.sched.pointer = s.sched.pointer
  buffer : t.engine.buffer = [] ∧ t.engine.partialByte = none
  ended : ∀ v, t.engine.service = some v → v.ctx ≠ c
  next : t.wd h = some { w with step := .contexts }
  bus : ∃ y : State, (∀ d, y.ctx d = if d = c then (s.ctx c).withdrawn else s.ctx d) ∧
    (∀ g, y.readyList g = s.readyList g) ∧ y.engine.service = none ∧ y.sched.mark = none ∧
    y.sched.pointer = s.sched.pointer ∧ y.sched.ring = s.sched.ring ∧ y.wd h = some { w with step := .contexts } ∧
    t = if s.engine.lown = true ∧ s.engine.losing = none then y.select else y.leaveBus

end Sys2Proof.Machine

namespace Sys2Proof

/-- The host whose port a command concerns; none for the commands of the bus, the lines and the whole part. -/
def Instr.host (i : Instr) : Option HostNo :=
  match i with
  | .commandByte h _ | .parameterByte h _ | .statusRead h | .responseRead h => some h
  | .clm h | .rel h | .src h | .dst h | .cnt h | .mod h | .pat h | .lnk h | .sta h | .sus h | .rsm h | .abt h | .qry h => some h
  | .opw h | .clw h | .qwn h | .wgt h | .tke h | .pek h | .rsn h | .badCmd h _ => some h
  | .prstAssertion h | .prstRelease h | .nextWithdrawalStep h => some h
  | .reset | .grantArrival | .grantWithdrawal | .beatAnswer _ _ _ | .faultAnswer _ | .ackTimeout => none
  | .requestObservedAsserted _ | .requestObservedDeasserted _ | .serviceCut => none

end Sys2Proof
end

