-- ==== Sys2Proof/WellFormed.lean ====
section
/-! DEFINITION. Which commands are well formed. The operands are typed by their ranges, so one check is left: the code of a
BAD_CMD is one to which Table 10-1 assigns no command (R153). -/

namespace Sys2Proof

/-- The check of one command. -/
def Instr.wellFormed : Instr → Bool
  | .badCmd _ code => (Cmd.ofCode code).isNone
  | .commandByte _ _ | .parameterByte _ _ | .statusRead _ | .responseRead _ => true
  | .clm _ | .rel _ | .src _ | .dst _ | .cnt _ | .mod _ | .pat _ | .lnk _ | .sta _ | .sus _ | .rsm _ | .abt _ | .qry _ => true
  | .opw _ | .clw _ | .qwn _ | .wgt _ | .tke _ | .pek _ | .rsn _ => true
  | .prstAssertion _ | .prstRelease _ | .reset | .grantArrival | .grantWithdrawal => true
  | .beatAnswer _ _ _ | .faultAnswer _ | .ackTimeout => true
  | .requestObservedAsserted _ | .requestObservedDeasserted _ | .serviceCut | .nextWithdrawalStep _ => true

end Sys2Proof
end

