-- ==== Sys2Proof/Certificates/Slice0/Obligations.lean ====
section
/-! DEFINITION. The statements for the provers. -/

open Sys2Proof Sys2Proof.Machine

/-! ## The step, RESET, codes and layouts -/

/-- One step takes the front command with the rest of the queue. With an empty queue (the model's choice, log 14) the part goes
on from the interval in which the grant is held and no beat is in flight, by the selection in ASKING and by the first strobe of
a service (R94, R68; log 7), and no expiry of an earlier beat may come late any more (log 30); elsewhere nothing changes. -/
def Obligations.StepTakesTheFrontCommand : Prop :=
  (∀ (s : State) (c : Instr) (rest : List Instr), step { s with pending := c :: rest } = exec c { s with pending := rest }) ∧
    ∀ s : State, s.pending = [] →
      (s.engine.lown = true → s.engine.beat = none → s.engine.losing = none →
        (s.engine.state = .asking → step s = .next ((s.setEngine { s.engine with
          rival := if s.engine.rival = some .expiry then none else s.engine.rival }).selectNow false)) ∧
        (s.engine.state.onBus = true → step s = .next (s.setEngine { s.engine with
          rival := if s.engine.rival = some .expiry then none else s.engine.rival }).issueBeat)) ∧
      (s.engine.lown = false ∨ s.engine.beat ≠ none ∨ s.engine.losing ≠ none → step s = .next s)

/-- Every command answers a next state, keeps the queue of commands that wait, and uses at most four free choices (log 6, 7,
28, 30). -/
def Obligations.EveryCommandCompletes : Prop :=
  ∀ (s : State) (c : Instr), ∃ t, exec c s = .next t ∧ t.pending = s.pending ∧
    s.choices ≤ t.choices ∧ t.choices ≤ s.choices + 4

/-- The reset state is sound. -/
def Obligations.ResetStateSound : Prop := Sound State.reset

/-- RESET puts every block in its reset state, every start-set field at the encoding 0 of its field included (R27, R47, R63, R90,
R102, R133, R148, R165); LGNT as observed, the byte last driven on PD, the queue of commands that wait and the model's counter
are the model's choices (log 11, 12, 15). -/
def Obligations.ResetClearsEveryBlock : Prop :=
  ∀ s : State, ∃ t, exec .reset s = .next t ∧
    (∀ c, (t.ctx c).state = .free ∧ (t.ctx c).owner = none ∧ (t.ctx c).parts = ⟨false, false, false, false, false, false⟩ ∧
      (t.ctx c).curSrc = 0 ∧ (t.ctx c).curDst = 0 ∧ (t.ctx c).residual = 0 ∧ (t.ctx c).moved = 0 ∧
      (t.ctx c).abortPending = false ∧ (t.ctx c).suspendPending = false ∧ (t.ctx c).pendingEnd = none ∧
      (t.ctx c).srcWin = 0 ∧ (t.ctx c).srcStart = 0 ∧ (t.ctx c).dstWin = 0 ∧ (t.ctx c).dstStart = 0 ∧
      (t.ctx c).count = 0 ∧ (t.ctx c).pattern = 0 ∧ (t.ctx c).mask = 0 ∧ (t.ctx c).link = 0 ∧
      (t.ctx c).kind = .move ∧ (t.ctx c).unit = .one ∧ (t.ctx c).rep = false ∧ (t.ctx c).priority = 0 ∧
      (t.ctx c).trigger = .soft ∧ (t.ctx c).srcStep = .inc ∧ (t.ctx c).dstStep = .inc) ∧
    (∀ w, (t.window w).state = .closed ∧ (t.window w).creator = none ∧ (t.window w).share = 0 ∧ (t.window w).refs = 0 ∧
      (t.window w).learned = none ∧ (t.window w).demoted = false ∧ (t.window w).base = 0 ∧ (t.window w).limit = 0 ∧
      (t.window w).ackLimit = 0 ∧ (t.window w).width = .w8 ∧ (t.window w).burstAllowed = false ∧
      (t.window w).sideEffect = false) ∧
    (∀ h, t.readyList h = [] ∧ t.weight h = 1) ∧
    t.sched.ring = [0, 1, 2, 3] ∧ t.sched.pointer = 0 ∧ t.sched.mark = none ∧ t.sched.work = false ∧
    t.engine.state = .idle ∧ t.engine.service = none ∧ t.engine.buffer = [] ∧ t.engine.partialByte = none ∧
    t.engine.beat = none ∧ t.engine.lreq = false ∧ t.engine.lown = false ∧ t.engine.losing = none ∧
    (∀ h, (t.cq h).queue = [] ∧ (t.cq h).held = [] ∧ (t.cq h).nextSeq = 0) ∧
    (∀ n, t.line n = ⟨none, false, false⟩) ∧
    (∀ h, (t.port h).state = .idle ∧ (t.port h).latch = none ∧ (t.port h).owed = 0 ∧ (t.port h).collect = [] ∧
      (t.port h).response = [] ∧ (t.port h).ovr = false ∧ (t.port h).err = false ∧ (t.port h).passed = none ∧
      t.wd h = none ∧ t.statusByte h = 0 ∧ t.atn h = false) ∧
    t.pending = s.pending ∧ t.choices = s.choices

/-- The command codes, the two- and three-byte quantities and the L-bus answer codes read back what was written, and no other
code is a command's (Tables 10-1 and 10-14, R166, R168). -/
def Obligations.CodesReadBack : Prop :=
  (∀ (b : Byte) (k : Cmd), Cmd.ofCode b = some k ↔ b = k.code) ∧
    (∀ a : Addr, ∃ b2 b1 b0, addrBytes a = [b2, b1, b0] ∧ addrOf b2 b1 b0 = a) ∧
    (∀ x : Half, ∃ b1 b0, halfBytes x = [b1, b0] ∧ halfOf b1 b0 = x) ∧
    (∀ b : BitVec 3, (lansOf b).code = b) ∧
    (∀ l : Lans, lansOf l.code = l) ∧
    ∀ k : Cmd, ∀ h : HostNo, (Instr.badCmd h k.code).wellFormed = false

/-! ## Host ports -/

/-- COMMAND_BYTE in IDLE and COLLECTING: a command with parameters is collected, one without is passed to its block, and what
stood in the port is lost (R151, R153); RSN and the codes without a command have statements of their own. In EXECUTING and WITHDRAWING
command and parameter bytes are dropped with OVR, a parameter byte in IDLE too; in RESET-HELD both are ignored (R151, R152). -/
def Obligations.CommandByteTakenOrDropped : Prop :=
  (∀ (s : State) (h : HostNo) (b : Byte),
    ((s.port h).state = .executing ∨ (s.port h).state = .withdrawing →
      exec (.commandByte h b) s = .next (s.setPort h { s.port h with ovr := true })) ∧
    ((s.port h).state = .idle ∨ (s.port h).state = .executing ∨ (s.port h).state = .withdrawing →
      exec (.parameterByte h b) s = .next (s.setPort h { s.port h with ovr := true })) ∧
    ((s.port h).state = .resetHeld → exec (.commandByte h b) s = .next s ∧ exec (.parameterByte h b) s = .next s)) ∧
  ∀ (s : State) (h : HostNo) (b : Byte) (k : Cmd),
    (s.port h).state = .idle ∨ (s.port h).state = .collecting → Cmd.ofCode b = some k → k ≠ .rsn →
    exec (.commandByte h b) s = .next (s.setPort h
      (if 0 < k.paramCount then
        { s.port h with state := .collecting, latch := some b, owed := k.paramCount, collect := [], response := [] }
      else
        { s.port h with
          state := .executing, latch := some b, owed := 0, collect := [], response := []
          passed := some { cmd := k, params := [], waiting := none } }))

/-- PARAMETER_BYTE in COLLECTING: the byte is stored in the next place, and the last byte owed passes the command with its bytes
in the order written (R152, R153). -/
def Obligations.ParameterByteCollected : Prop :=
  ∀ (s : State) (h : HostNo) (b code : Byte) (k : Cmd),
    (s.port h).state = .collecting → (s.port h).latch = some code → Cmd.ofCode code = some k →
    (∀ n, (s.port h).owed = n + 2 →
      exec (.parameterByte h b) s =
        .next (s.setPort h { s.port h with collect := (s.port h).collect ++ [b], owed := n + 1 })) ∧
    ((s.port h).owed = 1 →
      exec (.parameterByte h b) s = .next (s.setPort h { s.port h with
        state := .executing, owed := 0, collect := []
        passed := some { cmd := k, params := (s.port h).collect ++ [b], waiting := none } }))

/-- STATUS_READ returns the eight indications at the bits of Table 10-13 and then clears OVR; in RESET-HELD it returns 00H and
changes nothing else (R156, R157). -/
def Obligations.StatusByteRead : Prop :=
  ∀ (s : State) (h : HostNo),
    ((s.port h).state ≠ .resetHeld → ∃ b : Byte,
      exec (.statusRead h) s = .next (s.setPort h { s.port h with pd := some b, ovr := false }) ∧
      (b.getLsbD 7 = true ↔ (s.port h).state = .executing ∨ (s.port h).state = .withdrawing) ∧
      (b.getLsbD 6 = true ↔ (s.port h).state = .collecting) ∧
      (b.getLsbD 5 = true ↔ (s.port h).response ≠ []) ∧
      (b.getLsbD 4 = true ↔ (s.cq h).queue ≠ []) ∧
      (b.getLsbD 3 = true ↔ (s.cq h).held ≠ []) ∧
      (b.getLsbD 2 = true ↔ (s.port h).ovr = true) ∧
      (b.getLsbD 1 = true ↔ (s.port h).state = .withdrawing) ∧
      (b.getLsbD 0 = true ↔ (s.port h).err = true)) ∧
    ((s.port h).state = .resetHeld → exec (.statusRead h) s = .next (s.setPort h { s.port h with pd := some 0x00 }))

/-- RESPONSE_READ returns and removes the oldest byte waiting; with none it returns FFH and sets OVR; in RESET-HELD it returns
00H and changes nothing else (R155). -/
def Obligations.ResponseByteRead : Prop :=
  ∀ (s : State) (h : HostNo),
    ((s.port h).state ≠ .resetHeld → ∀ r rest, (s.port h).response = r :: rest →
      exec (.responseRead h) s = .next (s.setPort h { s.port h with pd := some r, response := rest })) ∧
    ((s.port h).state ≠ .resetHeld → (s.port h).response = [] →
      exec (.responseRead h) s = .next (s.setPort h { s.port h with pd := some 0xFF, ovr := true })) ∧
    ((s.port h).state = .resetHeld → exec (.responseRead h) s = .next (s.setPort h { s.port h with pd := some 0x00 }))

/-- RSN, as the row and as its code 61H, carried out at once by the port (log 2): the port enters WITHDRAWING and the withdrawal
begins with its step 1 (R160, R161). -/
def Obligations.ResignBeginsWithdrawal : Prop :=
  ∀ (s : State) (h : HostNo), (s.port h).state = .idle ∨ (s.port h).state = .collecting →
    ∀ i, i = .rsn h ∨ i = .commandByte h 0x61 →
      exec i s = .next (((s.setPort h { s.port h with
        state := .withdrawing, latch := some 0x61, owed := 0, collect := [], response := [] }).setWd h
          (some { step := .cut, byRsn := true })).reevaluate)

/-- A code to which no command is assigned, as the row BAD_CMD and as a command byte, is completed at once with 01H as its one
response byte and ERR set; no block sees it (R153, R154; the row by log 2). -/
def Obligations.UnassignedCodeRefused : Prop :=
  ∀ (s : State) (h : HostNo) (b : Byte), (s.port h).state = .idle ∨ (s.port h).state = .collecting →
    (∀ k : Cmd, b ≠ k.code) →
    ∀ i, i = .badCmd h b ∨ i = .commandByte h b →
      exec i s = .next (s.setPort h { s.port h with
        state := .idle, latch := none, owed := 0, collect := [], response := [0x01], err := true })

/-- PRST_ASSERTION: the port discards what it holds and enters RESET-HELD. A withdrawal in progress goes on, with no result owed
to an RSN, and a command passed before it that its block still holds stays there (R162, R163); else one begins, with step 1 at once,
or after the block has taken the command it still holds (R159, R160, R163; log 3).
In RESET-HELD there is no assertion. -/
def Obligations.PortResetAsserted : Prop :=
  ∀ (s : State) (h : HostNo),
    ((s.port h).state = .resetHeld → exec (.prstAssertion h) s = .next s) ∧
    ((s.port h).state ≠ .resetHeld → ∀ w, s.wd h = some w → s.toTake h = none →
      exec (.prstAssertion h) s = .next ((s.setPort h { s.port h with
        state := .resetHeld, latch := none, owed := 0, collect := [], response := [], passed := none }).setWd h
          (some { w with byRsn := false }))) ∧
    ((s.port h).state ≠ .resetHeld → s.wd h = none → s.toTake h = none →
      exec (.prstAssertion h) s = .next (((s.setPort h { s.port h with
        state := .resetHeld, latch := none, owed := 0, collect := [], response := [], passed := none }).setWd h
          (some { step := .cut, byRsn := false })).reevaluate)) ∧
    ((s.port h).state ≠ .resetHeld → ∀ q, s.toTake h = some q →
      (s.wd h = none → exec (.prstAssertion h) s = .next ((s.setPort h { s.port h with
        state := .resetHeld, latch := none, owed := 0, collect := [], response := [], passed := some q }).setWd h
          (some { step := .begin, byRsn := false }))) ∧
      ∀ w, s.wd h = some w → exec (.prstAssertion h) s = .next ((s.setPort h { s.port h with
        state := .resetHeld, latch := none, owed := 0, collect := [], response := [], passed := some q }).setWd h
          (some { w with byRsn := false })))

/-- PRST_RELEASE: IDLE with everything clear where the withdrawal is complete, WITHDRAWING before (R162). -/
def Obligations.PortResetReleased : Prop :=
  ∀ (s : State) (h : HostNo),
    ((s.port h).state = .resetHeld → s.wd h = none →
      exec (.prstRelease h) s = .next (s.setPort h { s.port h with
        state := .idle, latch := none, owed := 0, collect := [], response := [], ovr := false, err := false })) ∧
    ((s.port h).state = .resetHeld → ∀ w, s.wd h = some w →
      exec (.prstRelease h) s = .next (s.setPort h { s.port h with state := .withdrawing })) ∧
    ((s.port h).state ≠ .resetHeld → exec (.prstRelease h) s = .next s)

/-! ## The commands of the Context Table -/

/-- The three tests of R8, in order, for every command that names a context but CLM: the first that fails gives the result, and
the command then changes nothing in any block. -/
def Obligations.ContextTestsRefuse : Prop :=
  ∀ (s : State) (h : HostNo) (k : Cmd) (b : Byte) (ps : List Byte) (accepted : List CtxState),
    k.acceptedIn = some accepted → s.given h k (b :: ps) →
    (0x10 ≤ b.toNat → exec (k.row h) s = .next (s.completed h [0x02])) ∧
    ∀ c : CtxNo, b.toNat = c.val →
      (¬s.owns h c → exec (k.row h) s = .next (s.completed h [0x03])) ∧
      (s.owns h c → (s.ctx c).state ∉ accepted → exec (k.row h) s = .next (s.completed h [0x04]))

/-- CLM: a numbered claim takes a FREE context, a claim with FFH the lowest-numbered one; the record is cleared as R9 says and
the start-set fields stay. A refusal answers its code and FFH and changes nothing (R9). -/
def Obligations.ClaimTakesFreeContext : Prop :=
  ∀ (s : State) (h : HostNo) (b : Byte), s.given h .clm [b] →
    (∀ c : CtxNo, (b.toNat = c.val ∨ b = 0xFF ∧ ∀ d : CtxNo, d < c → (s.ctx d).state ≠ .free) → (s.ctx c).state = .free →
      exec (.clm h) s = .next ((s.setCtx c { s.ctx c with
        state := .claimed, owner := some h, parts := ⟨false, false, false, false, false, false⟩
        curSrc := 0, curDst := 0, residual := 0, moved := 0
        abortPending := false, suspendPending := false, pendingEnd := none }).completed h [0x00, BitVec.ofNat 8 c.val])) ∧
    (∀ c : CtxNo, b.toNat = c.val → (s.ctx c).state ≠ .free → exec (.clm h) s = .next (s.completed h [0x05, 0xFF])) ∧
    (b = 0xFF → (∀ d, (s.ctx d).state ≠ .free) → exec (.clm h) s = .next (s.completed h [0x06, 0xFF])) ∧
    (0x10 ≤ b.toNat → b ≠ 0xFF → exec (.clm h) s = .next (s.completed h [0x02, 0xFF]))

/-- REL: a CLAIMED context of the issuer becomes FREE: no owner, no parts, no pending flags; the rest of the record stays
(R10). -/
def Obligations.ReleaseFreesContext : Prop :=
  ∀ (s : State) (h : HostNo) (b : Byte) (c : CtxNo),
    s.given h .rel [b] → b.toNat = c.val → (s.ctx c).state = .claimed → (s.ctx c).owner = some h →
    exec (.rel h) s = .next ((s.setCtx c { s.ctx c with
      state := .free, owner := none, parts := ⟨false, false, false, false, false, false⟩
      abortPending := false, suspendPending := false, pendingEnd := none }).completed h [0x00])

/-- SRC and DST write their part, the current address and the parts-present set; a window above 7 or a reserved step is refused
with BAD_PARAM and nothing changes (R11, R3, Table 10-3). -/
def Obligations.SourceAndDestinationSet : Prop :=
  ∀ (s : State) (h : HostNo) (b bw a2 a1 a0 bs : Byte) (c : CtxNo),
    b.toNat = c.val → (s.ctx c).state = .claimed → (s.ctx c).owner = some h →
    (∀ (w : WinNo) (d : AddrStep), bw.toNat = w.val →
      (bs = 0x00 ∧ d = .inc ∨ bs = 0x01 ∧ d = .dec ∨ bs = 0x02 ∧ d = .hold) →
      (s.given h .src [b, bw, a2, a1, a0, bs] →
        exec (.src h) s = .next ((s.setCtx c { s.ctx c with
          srcWin := w, srcStart := a2 ++ a1 ++ a0, srcStep := d, curSrc := a2 ++ a1 ++ a0
          parts := { (s.ctx c).parts with source := true } }).completed h [0x00])) ∧
      (s.given h .dst [b, bw, a2, a1, a0, bs] →
        exec (.dst h) s = .next ((s.setCtx c { s.ctx c with
          dstWin := w, dstStart := a2 ++ a1 ++ a0, dstStep := d, curDst := a2 ++ a1 ++ a0
          parts := { (s.ctx c).parts with dest := true } }).completed h [0x00]))) ∧
    (8 ≤ bw.toNat ∨ 3 ≤ bs.toNat →
      (s.given h .src [b, bw, a2, a1, a0, bs] → exec (.src h) s = .next (s.completed h [0x02])) ∧
      (s.given h .dst [b, bw, a2, a1, a0, bs] → exec (.dst h) s = .next (s.completed h [0x02])))

/-- CNT writes count and residual, leaves moved, and refuses 0; PAT writes pattern and mask, whatever their values (R12, R14). -/
def Obligations.CountAndPatternSet : Prop :=
  ∀ (s : State) (h : HostNo) (b n1 n0 m1 m0 : Byte) (c : CtxNo),
    b.toNat = c.val → (s.ctx c).state = .claimed → (s.ctx c).owner = some h →
    (s.given h .cnt [b, n1, n0] →
      ((n1 ++ n0 : Half) ≠ 0 → exec (.cnt h) s = .next ((s.setCtx c { s.ctx c with
        count := n1 ++ n0, residual := n1 ++ n0, parts := { (s.ctx c).parts with count := true } }).completed h [0x00])) ∧
      ((n1 ++ n0 : Half) = 0 → exec (.cnt h) s = .next (s.completed h [0x02]))) ∧
    (s.given h .pat [b, n1, n0, m1, m0] →
      exec (.pat h) s = .next ((s.setCtx c { s.ctx c with
        pattern := n1 ++ n0, mask := m1 ++ m0, parts := { (s.ctx c).parts with pattern := true } }).completed h [0x00]))

/-- MOD writes type, unit, repeat, priority and trigger from the bits of Tables 10-4 and 10-5; with SOFT no line, side or pacing
is recorded; a reserved encoding or a reserved bit is refused with BAD_PARAM (R13, R166). -/
def Obligations.ModeSet : Prop :=
  ∀ (s : State) (h : HostNo) (b m t : Byte) (c : CtxNo),
    s.given h .mod [b, m, t] → b.toNat = c.val → (s.ctx c).state = .claimed → (s.ctx c).owner = some h →
    (m.extractLsb' 6 2 ≠ 0 ∨ m.extractLsb' 0 2 = 3 ∨ t.extractLsb' 5 2 ≠ 0 →
      exec (.mod h) s = .next (s.completed h [0x02])) ∧
    (m.extractLsb' 6 2 = 0 → t.extractLsb' 5 2 = 0 → ∀ k : Kind,
      (m.extractLsb' 0 2 = 0 ∧ k = .move ∨ m.extractLsb' 0 2 = 1 ∧ k = .fill ∨ m.extractLsb' 0 2 = 2 ∧ k = .check) →
      exec (.mod h) s = .next ((s.setCtx c { s.ctx c with
        kind := k
        unit := if m.getLsbD 2 = true then .two else .one
        rep := m.getLsbD 3
        priority := (m.extractLsb' 4 2).toFin
        trigger := if t.getLsbD 7 = true then
            .line (t.extractLsb' 0 3).toFin (if t.getLsbD 3 = true then .dest else .source)
              (if t.getLsbD 4 = true then .stream else .paced)
          else .soft
        parts := { (s.ctx c).parts with mode := true } }).completed h [0x00]))

/-- LNK: the tests of its own in order, then the link written, or removed with FFH (R15). -/
def Obligations.LinkSet : Prop :=
  ∀ (s : State) (h : HostNo) (b l : Byte) (c : CtxNo),
    s.given h .lnk [b, l] → b.toNat = c.val → (s.ctx c).state = .claimed → (s.ctx c).owner = some h →
    (0x10 ≤ l.toNat → l ≠ 0xFF → exec (.lnk h) s = .next (s.completed h [0x02])) ∧
    (l = 0xFF → exec (.lnk h) s =
      .next ((s.setCtx c { s.ctx c with parts := { (s.ctx c).parts with link := false } }).completed h [0x00])) ∧
    ∀ d : CtxNo, l.toNat = d.val →
      (d = c → exec (.lnk h) s = .next (s.completed h [0x02])) ∧
      (d ≠ c → ¬s.owns h d → exec (.lnk h) s = .next (s.completed h [0x03])) ∧
      (d ≠ c → s.owns h d → exec (.lnk h) s =
        .next ((s.setCtx c { s.ctx c with link := d, parts := { (s.ctx c).parts with link := true } }).completed h [0x00]))

/-- STA with every check passed: the run begins, references and line are taken, the context stands at the tail of its owner's
ready list, the work-present indication is re-evaluated, and OK is answered; nothing else changes (R16, R17). -/
def Obligations.StartTaken : Prop :=
  ∀ (s : State) (h : HostNo) (b : Byte) (c : CtxNo),
    s.given h .sta [b] → b.toNat = c.val → s.owns h c → MayStart s c h →
    ∃ t : State, exec (.sta h) s = .next (t.reevaluate.completed h [0x00]) ∧ Started s t c h ∧
      (∀ d, d ≠ c → t.ctx d = s.ctx d) ∧
      t = { s with ctxs := t.ctxs, windows := t.windows, lines := t.lines, sched := { s.sched with ready := t.sched.ready } }

/-- STA refused: the first of the checks 3 to 8 that fails gives the result, and nothing changes in any block (R16). -/
def Obligations.StartRefused : Prop :=
  ∀ (s : State) (h : HostNo) (b : Byte) (c : CtxNo),
    s.given h .sta [b] → b.toNat = c.val → (s.ctx c).owner = some h → (s.ctx c).state = .claimed →
    (¬(s.ctx c).hasParts → exec (.sta h) s = .next (s.completed h [0x07])) ∧
    ((s.ctx c).hasParts → ¬(s.ctx c).partsAgree → exec (.sta h) s = .next (s.completed h [0x02])) ∧
    ((s.ctx c).hasParts → (s.ctx c).partsAgree → ¬s.windowsLive (s.ctx c) →
      exec (.sta h) s = .next (s.completed h [0x0C])) ∧
    ((s.ctx c).hasParts → (s.ctx c).partsAgree → s.windowsLive (s.ctx c) → ¬s.windowsShared (s.ctx c) h →
      exec (.sta h) s = .next (s.completed h [0x09])) ∧
    ((s.ctx c).hasParts → (s.ctx c).partsAgree → s.windowsLive (s.ctx c) → s.windowsShared (s.ctx c) h →
      ¬s.spansInside (s.ctx c) → exec (.sta h) s = .next (s.completed h [0x08])) ∧
    ((s.ctx c).hasParts → (s.ctx c).partsAgree → s.windowsLive (s.ctx c) → s.windowsShared (s.ctx c) h →
      s.spansInside (s.ctx c) → ¬s.lineFree (s.ctx c) → exec (.sta h) s = .next (s.completed h [0x0A]))

/-- SUS: a READY context leaves its ready list and is SUSPENDED at once; on the ACTIVE context suspend pending is set and the
command stays with the port, waiting on the service (R19, R116, R119). RSM: a SUSPENDED context becomes READY at the tail of
its owner's ready list (R20). -/
def Obligations.SuspendAndResume : Prop :=
  ∀ (s : State) (h : HostNo) (b : Byte) (c : CtxNo), b.toNat = c.val → (s.ctx c).owner = some h →
    (s.given h .sus [b] → (s.ctx c).state = .ready →
      exec (.sus h) s = .next ((((s.setReady h ((s.readyList h).erase c)).setCtx c
        { s.ctx c with state := .suspended }).reevaluate).completed h [0x00])) ∧
    (s.given h .sus [b] → (s.ctx c).state = .active →
      exec (.sus h) s = .next ((s.setCtx c { s.ctx c with suspendPending := true }).setPort h
        { s.port h with passed := some { cmd := .sus, params := [b], waiting := some c } })) ∧
    (s.given h .rsm [b] → (s.ctx c).state = .suspended →
      exec (.rsm h) s = .next ((((s.setCtx c { s.ctx c with state := .ready }).setReady h
        (s.readyList h ++ [c])).reevaluate).completed h [0x00]))

/-- ABT on a READY or SUSPENDED context: it leaves the ready list, and its run ends at once with cause ABORT and no flag, posted
or held as any run end; OK is answered (R21). -/
def Obligations.AbortEndsWaitingRun : Prop :=
  ∀ (s : State) (h : HostNo) (b : Byte) (c : CtxNo),
    s.given h .abt [b] → b.toNat = c.val → (s.ctx c).owner = some h →
    (s.ctx c).state = .ready ∨ (s.ctx c).state = .suspended →
    exec (.abt h) s = .next ((((s.setReady h ((s.readyList h).erase c)).runEnds c h
      { cause := .abort, wph := false, drainLost := false, dataLost := false, faultAddr := none }).reevaluate).completed h
        [0x00])

/-- ABT on the ACTIVE context with a beat in flight sets abort pending and waits on the service; the beat stays. In READING what
the burst still announces is dropped (R113); a MOVE in WRITING passes to DRAINING, at once (log 16); a FILL in WRITING and a
service in DRAINING go on as they are (R114). In PINNED the buffer is discarded with DATA_LOST and the run ends at once (R115);
before the first strobe of the service the run ends at once too (R113, R114; log 7). -/
def Obligations.AbortReachesService : Prop :=
  ∀ (s : State) (h : HostNo) (b : Byte) (c : CtxNo) (v : Service),
    s.given h .abt [b] → b.toNat = c.val → (s.ctx c).owner = some h → (s.ctx c).state = .active →
    s.engine.service = some v → v.ctx = c →
    (s.engine.state = .pinned →
      exec (.abt h) s = .next (((s.setCtx c { s.ctx c with abortPending := true }).setEngine
        { s.engine with buffer := [], service := some { v with dataLost := true } }).endService.completed h [0x00])) ∧
    (s.engine.beat = none → v.half = false →
      (s.engine.state = .reading ∧ s.engine.buffer = [] ∨ s.engine.state = .writing ∧ v.kind = .fill) →
      exec (.abt h) s = .next ((s.setCtx c { s.ctx c with abortPending := true }).endService.completed h [0x00])) ∧
    (s.engine.state.onBus = true → s.engine.beat.isSome = true →
      exec (.abt h) s = .next (((s.setCtx c { s.ctx c with abortPending := true }).setEngine { s.engine with
        state := if s.engine.state = .writing ∧ v.kind = .move then .draining else s.engine.state
        service := some (if s.engine.state = .reading then { v with burst := 0 } else v) }).setPort h
      { s.port h with passed := some { cmd := .abt, params := [b], waiting := some c } }))

/-- QRY answers the fourteen bytes of Table 10-8 and changes nothing but the port (R24, R167). -/
def Obligations.QueryReportsContext : Prop :=
  ∀ (s : State) (h : HostNo) (b : Byte) (c : CtxNo), s.given h .qry [b] → b.toNat = c.val → s.owns h c →
    ∃ b2 b3 b4 : Byte,
      exec (.qry h) s = .next (s.completed h ([0x00, b2, b3, b4] ++ addrBytes (s.ctx c).curSrc ++ addrBytes (s.ctx c).curDst ++
        halfBytes (s.ctx c).residual ++ halfBytes (s.ctx c).moved)) ∧
      b2.extractLsb' 0 3 = (match (s.ctx c).state with
        | .free => 0
        | .claimed => 1
        | .ready => 2
        | .active => 3
        | .suspended => 4
        | .held => 5) ∧
      b2.getLsbD 3 = false ∧ (b2.extractLsb' 4 2).toNat = h.val ∧ b2.extractLsb' 6 2 = 0 ∧
      b3.getLsbD 0 = (s.ctx c).parts.source ∧ b3.getLsbD 1 = (s.ctx c).parts.dest ∧ b3.getLsbD 2 = (s.ctx c).parts.count ∧
      b3.getLsbD 3 = (s.ctx c).parts.mode ∧ b3.getLsbD 4 = (s.ctx c).parts.pattern ∧ b3.getLsbD 5 = (s.ctx c).parts.link ∧
      b3.extractLsb' 6 2 = 0 ∧
      (b4.getLsbD 0 = true ↔ (s.ctx c).state.started = true ∧
        ∃ n d, (s.ctx c).trigger = .line n d .paced ∧ (s.line n).armed = true) ∧
      b4.getLsbD 1 = (s.ctx c).abortPending ∧ b4.getLsbD 2 = (s.ctx c).suspendPending ∧ b4.extractLsb' 3 5 = 0

/-! ## The commands of the Window Table -/

/-- OPW: a numbered CLOSED window, or the lowest-numbered one for FFH, is opened with the fields of R32 (Table 10-6). The
tests of R31 are made in order; a refusal answers its code and FFH, and nothing changes. -/
def Obligations.WindowOpenedOrRefused : Prop :=
  (∀ (s : State) (h : HostNo) (b b2 b1 b0 l2 l1 l0 at' sh ack : Byte) (w : WinNo) (d : DeclWidth),
    s.given h .opw [b, b2, b1, b0, l2, l1, l0, at', sh, ack] →
    (b.toNat = w.val ∨ b = 0xFF ∧ ∀ u : WinNo, u < w → (s.window u).state ≠ .closed) → (s.window w).state = .closed →
    (b2 ++ b1 ++ b0 : Addr) ≤ l2 ++ l1 ++ l0 →
    (at'.extractLsb' 0 2 = 0 ∧ d = .w8 ∨ at'.extractLsb' 0 2 = 1 ∧ d = .w16 ∨ at'.extractLsb' 0 2 = 2 ∧ d = .auto) →
    at'.extractLsb' 4 4 = 0 → sh.extractLsb' 4 4 = 0 →
    ∃ x : Window,
      exec (.opw h) s = .next ((s.setWindow w x).completed h [0x00, BitVec.ofNat 8 w.val]) ∧
      x = { x with
        state := .opened, creator := some h, base := b2 ++ b1 ++ b0, limit := l2 ++ l1 ++ l0, width := d
        burstAllowed := at'.getLsbD 2, sideEffect := at'.getLsbD 3, ackLimit := ack
        learned := none, demoted := false, refs := 0 } ∧
      ∀ g : HostNo, x.share.getLsbD g.val = (sh.getLsbD g.val || decide (g = h))) ∧
  ∀ (s : State) (h : HostNo) (b b2 b1 b0 l2 l1 l0 at' sh ack : Byte),
    s.given h .opw [b, b2, b1, b0, l2, l1, l0, at', sh, ack] →
    (8 ≤ b.toNat ∧ b ≠ 0xFF ∨ (l2 ++ l1 ++ l0 : Addr) < b2 ++ b1 ++ b0 ∨ at'.extractLsb' 0 2 = 3 ∨
        at'.extractLsb' 4 4 ≠ 0 ∨ sh.extractLsb' 4 4 ≠ 0 →
      exec (.opw h) s = .next (s.completed h [0x02, 0xFF])) ∧
    ((b2 ++ b1 ++ b0 : Addr) ≤ l2 ++ l1 ++ l0 → at'.extractLsb' 0 2 ≠ 3 → at'.extractLsb' 4 4 = 0 → sh.extractLsb' 4 4 = 0 →
      (∀ w : WinNo, b.toNat = w.val → (s.window w).state ≠ .closed →
        exec (.opw h) s = .next (s.completed h [0x05, 0xFF])) ∧
      (b = 0xFF → (∀ w, (s.window w).state ≠ .closed) → exec (.opw h) s = .next (s.completed h [0x0C, 0xFF])))

/-- CLW: the tests of Table 2-4 in order; a window closed loses creator, sharers, learned width and burst demoted, and keeps the
rest (R35). -/
def Obligations.WindowClosed : Prop :=
  ∀ (s : State) (h : HostNo) (b : Byte), s.given h .clw [b] →
    (8 ≤ b.toNat → exec (.clw h) s = .next (s.completed h [0x02])) ∧
    ∀ w : WinNo, b.toNat = w.val →
      ((s.window w).state = .closed → exec (.clw h) s = .next (s.completed h [0x0C])) ∧
      ((s.window w).state ≠ .closed → (s.window w).creator ≠ some h → exec (.clw h) s = .next (s.completed h [0x03])) ∧
      ((s.window w).state ≠ .closed → (s.window w).creator = some h → 0 < (s.window w).refs →
        exec (.clw h) s = .next (s.completed h [0x0B])) ∧
      ((s.window w).state ≠ .closed → (s.window w).creator = some h → (s.window w).refs = 0 →
        exec (.clw h) s = .next ((s.setWindow w { s.window w with
          state := .closed, creator := none, share := 0, learned := none, demoted := false }).completed h [0x00]))

/-- QWN: the tests of R34 in order, and the thirteen bytes of Table 10-9 to the creator or a host in the share mask; nothing but
the port changes. -/
def Obligations.QueryReportsWindow : Prop :=
  ∀ (s : State) (h : HostNo) (b : Byte), s.given h .qwn [b] →
    (8 ≤ b.toNat → exec (.qwn h) s = .next (s.completed h [0x02])) ∧
    ∀ w : WinNo, b.toNat = w.val →
      ((s.window w).state = .closed → exec (.qwn h) s = .next (s.completed h [0x0C])) ∧
      ((s.window w).state ≠ .closed → (s.window w).creator ≠ some h → (s.window w).share.getLsbD h.val = false →
        exec (.qwn h) s = .next (s.completed h [0x09])) ∧
      ((s.window w).state ≠ .closed → ((s.window w).creator = some h ∨ (s.window w).share.getLsbD h.val = true) →
        ∃ b2 b9 b10 b11 : Byte,
          exec (.qwn h) s = .next (s.completed h ([0x00, b2] ++ addrBytes (s.window w).base ++ addrBytes (s.window w).limit ++
            [b9, b10, b11, (s.window w).ackLimit, BitVec.ofNat 8 (s.window w).refs])) ∧
          b2.extractLsb' 0 2 = (if (s.window w).state = .opened then 1 else 2) ∧
          b2.getLsbD 2 = (s.window w).creator.isSome ∧ b2.getLsbD 3 = false ∧
          (b2.extractLsb' 4 2).toNat = ((s.window w).creator.map Fin.val).getD 0 ∧ b2.extractLsb' 6 2 = 0 ∧
          b9.extractLsb' 0 2 = (match (s.window w).width with
            | .w8 => 0
            | .w16 => 1
            | .auto => 2) ∧
          b9.getLsbD 2 = (s.window w).burstAllowed ∧ b9.getLsbD 3 = (s.window w).sideEffect ∧ b9.extractLsb' 4 4 = 0 ∧
          b10.extractLsb' 0 2 = (match (s.window w).learned with
            | none => 0
            | some .w8 => 1
            | some .w16 => 2) ∧
          b10.getLsbD 2 = (s.window w).demoted ∧ b10.extractLsb' 3 5 = 0 ∧
          b11.extractLsb' 0 4 = (s.window w).share ∧ b11.extractLsb' 4 4 = 0)

/-! ## The commands of the Scheduler, and selection -/

/-- WGT: 0 and values above 4 are refused; the present weight changes nothing; another weight is written and the ring is rebuilt
with the pointer at 0 and no ring mark (R56, R58). -/
def Obligations.WeightSet : Prop :=
  ∀ (s : State) (h : HostNo) (b : Byte), s.given h .wgt [b] →
    (b = 0 ∨ 4 < b.toNat → exec (.wgt h) s = .next (s.completed h [0x02])) ∧
    (0 < b.toNat → b.toNat ≤ 4 → s.weight h = b.toNat → exec (.wgt h) s = .next (s.completed h [0x00])) ∧
    (0 < b.toNat → b.toNat ≤ 4 → s.weight h ≠ b.toNat →
      exec (.wgt h) s = .next ((((s.setWeight h b.toNat).setRing (ringOf (s.setWeight h b.toNat).sched.weights) 0).setMark
        none).completed h [0x00]))

/-- The host ring: each host holds as many slots as its weight, and the slots are ordered by round and, in a round, by host
(R57). -/
def Obligations.RingFollowsWeights : Prop :=
  ∀ weights : Vector Nat 4, (∀ h : HostNo, 1 ≤ weights[h.val] ∧ weights[h.val] ≤ 4) →
    (ringOf weights).length = weights[0] + weights[1] + weights[2] + weights[3] ∧
    (∀ h : HostNo, (ringOf weights).count h = weights[h.val]) ∧
    ∀ (i j : Nat) (g h : HostNo), i < j → (ringOf weights)[i]? = some g → (ringOf weights)[j]? = some h →
      ((ringOf weights).take i).count g < ((ringOf weights).take j).count h ∨
        ((ringOf weights).take i).count g = ((ringOf weights).take j).count h ∧ g < h

/-- Eligibility (R52, R64): a listed context whose owner's withdrawal has not begun and whose trigger permits it, in the order of
the list. A withdrawal whose step 1 waits for a command passed before it has not begun (R163; that R64 counts from step 1 is the
model's reading, log 3). And the re-evaluation of work present with the request it drives (R62, R92). -/
def Obligations.WorkPresentFollowsEligibility : Prop :=
  ∀ s : State,
    (∀ h c, c ∈ s.eligible h ↔ c ∈ s.readyList h ∧ (∀ w, s.wd h = some w → w.step = .begin) ∧
      match (s.ctx c).trigger with
      | .soft => True
      | .line n _ .paced => (s.line n).armed = true ∧ (s.line n).level = true
      | .line n _ .stream => (s.line n).level = true) ∧
    (∀ h, (s.eligible h).Sublist (s.readyList h)) ∧
    (s.anyEligible = true ↔ ∃ h c, c ∈ s.eligible h) ∧
    s.reevaluate = { s with
      sched := { s.sched with work := s.anyEligible }
      engine :=
        if s.engine.state = .idle ∧ s.anyEligible = true then { s.engine with state := .asking, lreq := true }
        else if s.engine.state = .asking ∧ s.anyEligible = false ∧ s.engine.lown = false then
          { s.engine with state := .idle, lreq := false }
        else s.engine }

/-- A selection examines the slots from the pointer on, each once, stops at the first whose host has an eligible context, and
takes of that host's eligible contexts the most urgent one nearest the head; it answers none where no context is eligible (R54,
R59). -/
def Obligations.SelectionChooses : Prop :=
  ∀ s : State, s.ringSound →
    (∀ slot c, s.choose = some (slot, c) ↔
      ∃ k h before after, k < s.sched.ring.length ∧ slot = (s.sched.pointer + k) % s.sched.ring.length ∧
        s.sched.ring[slot]? = some h ∧
        (∀ j g, j < k → s.sched.ring[(s.sched.pointer + j) % s.sched.ring.length]? = some g → s.eligible g = []) ∧
        s.eligible h = before ++ c :: after ∧
        (∀ d ∈ before, (s.ctx c).priority < (s.ctx d).priority) ∧
        ∀ d ∈ after, (s.ctx c).priority ≤ (s.ctx d).priority) ∧
    (s.choose = none ↔ ∀ h, s.eligible h = [])

/-- A selection that finds a context begins its service: the context is ACTIVE and off its list, a PACED one is disarmed, the slot
is the ring mark, the service record is new with the length of R69, and its first beat is in flight or still to be issued (R22,
R59, R68, R69, R95, R123). A selection that finds none releases the bus (R94). A selection that is due is made with the first
beat, made with the first strobe still to come, or waits with the grant held (R94, R95): the model's free choice, log 7. -/
def Obligations.SelectionBeginsService : Prop :=
  ∀ s : State,
    (s.select = s.countChoice.reevaluate ∨ ∃ strobe, s.select = s.countChoice.selectNow strobe) ∧
    (∀ strobe slot c h, s.choose = some (slot, c) → (s.ctx c).owner = some h → ∃ (t : State) (v : Service) (beat : Option Beat),
      t = s.selectNow strobe ∧
      t.engine = { s.engine with
        state := if (s.ctx c).kind = .fill then .writing else .reading
        service := some v, buffer := [], partialByte := none, beat := beat } ∧
      v = { v with
        ctx := c, kind := (s.ctx c).kind, unit := (s.ctx c).unit, trigger := (s.ctx c).trigger
        length := if (s.ctx c).trigger.isPaced = true then 1
          else min (s.ctx c).residual.toNat (if (s.ctx c).unit = .two then 8 else 16)
        srcWin := (s.ctx c).srcWin, srcStep := (s.ctx c).srcStep, readAddr := (s.ctx c).curSrc
        dstWin := (s.ctx c).dstWin, dstStep := (s.ctx c).dstStep
        unitsRead := 0, unitsCommitted := 0, half := false, endDecided := none, termMark := false, reqDropped := false
        failure := none, drainLost := false, dataLost := false, writeOut := false, pinEnding := false } ∧
      (strobe = false → beat = none ∧ v.burst = 0) ∧
      (strobe = true → ∃ b, beat = some b ∧ b.write = decide ((s.ctx c).kind = .fill) ∧
        b.addr = (if (s.ctx c).kind = .fill then (s.ctx c).curDst else (s.ctx c).curSrc)) ∧
      (∀ d, t.ctx d = if d = c then { s.ctx c with state := .active } else s.ctx d) ∧
      (∀ g, t.readyList g = if g = h then (s.readyList h).erase c else s.readyList g) ∧
      (∀ n, t.line n =
        if (s.ctx c).trigger.isPaced = true ∧ (s.ctx c).trigger.lineNo = some n then { s.line n with armed := false } else s.line n) ∧
      t.sched.mark = some slot ∧
      t = { s with
        ctxs := t.ctxs, lines := t.lines, engine := t.engine
        sched := { s.sched with ready := t.sched.ready, mark := t.sched.mark, work := t.sched.work } }) ∧
    (s.choose = none → ∀ strobe, s.selectNow strobe =
      (s.setEngine { s.engine with state := .idle, beat := none, lown := false, lreq := false }).reevaluate)

/-! ## The Completion Unit -/

/-- TKE and PEK: EMPTY on an empty queue; else OK, the length and the head record in the layout of Table 10-10, the cause by its
code in Table 10-11. PEK changes nothing but the port; TKE removes the record and posts the head of the held list, if there is
one (R143, R144, R145). -/
def Obligations.RecordTakenOrPeeked : Prop :=
  (∀ k : Cause, k.code = match k with
    | .count => 0x01
    | .term => 0x02
    | .matched => 0x03
    | .abort => 0x04
    | .fault => 0x05
    | .timeout => 0x06
    | .width => 0x07) ∧
  ∀ (s : State) (h : HostNo),
    ((s.cq h).queue = [] →
      (s.given h .tke [] → exec (.tke h) s = .next (s.completed h [0x0D])) ∧
      (s.given h .pek [] → exec (.pek h) s = .next (s.completed h [0x0D]))) ∧
    ∀ r rest, (s.cq h).queue = r :: rest → ∃ len flag : Byte, ∃ tail : List Byte,
      (s.given h .pek [] → exec (.pek h) s = .next (s.completed h
        ([0x00, len, r.seq, BitVec.ofNat 8 r.ctx.val, r.cause.code, flag] ++ halfBytes r.moved ++ halfBytes r.residual ++
          tail))) ∧
      (s.given h .tke [] → (s.cq h).held = [] → exec (.tke h) s = .next
        (((s.setCq h { s.cq h with queue := rest }).reevaluate).completed h
          ([0x00, len, r.seq, BitVec.ofNat 8 r.ctx.val, r.cause.code, flag] ++ halfBytes r.moved ++ halfBytes r.residual ++
            tail))) ∧
      (s.given h .tke [] → ∀ c waiting e, (s.cq h).held = c :: waiting → (s.ctx c).pendingEnd = some e →
        exec (.tke h) s = .next
          ((((s.setCq h { s.cq h with queue := rest, held := waiting }).post c h e).reevaluate).completed h
            ([0x00, len, r.seq, BitVec.ofNat 8 r.ctx.val, r.cause.code, flag] ++ halfBytes r.moved ++ halfBytes r.residual ++
              tail))) ∧
      (r.faultAddr = none → len = 0x08 ∧ tail = []) ∧ (∀ a, r.faultAddr = some a → len = 0x0B ∧ tail = addrBytes a) ∧
      flag.getLsbD 0 = r.wph ∧ flag.getLsbD 1 = r.drainLost ∧ flag.getLsbD 2 = r.dataLost ∧ flag.getLsbD 3 = r.reloaded ∧
      flag.getLsbD 4 = r.linkTaken ∧ flag.getLsbD 5 = r.linkRefused ∧ flag.extractLsb' 6 2 = 0

/-- COUNT, TERM and MATCH are the ordinary ends. Posting: the record joins the tail of the owner's queue with the next sequence
number and the counts of the run that ended; an ordinary end of a repeating context reloads it; of a linked one releases it and
tries its successor; any other end releases it (R23, R135 to R139). A run end clears abort pending and is posted where the queue
has fewer than 8 records; else the context is HELD, with the end as its pending end, at the tail of the held list (R7, R134,
R141). -/
def Obligations.RunEndPostedOrHeld : Prop :=
  (∀ k : Cause, k.ordinary = true ↔ k = .count ∨ k = .term ∨ k = .matched) ∧
  (∀ (s : State) (c : CtxNo) (h : HostNo) (e : RunEnd),
    ((s.cq h).queue.length < 8 →
      s.runEnds c h e = (s.setCtx c { s.ctx c with abortPending := false }).post c h e) ∧
    (8 ≤ (s.cq h).queue.length →
      s.runEnds c h e = ((s.setCtx c { s.ctx c with abortPending := false, state := .held, pendingEnd := some e }).setCq h
        { s.cq h with held := (s.cq h).held ++ [c] }))) ∧
  ∀ (s : State) (c : CtxNo) (h : HostNo) (e : RunEnd), ∃ r : Record,
    (s.post c h e).cq h = { s.cq h with queue := (s.cq h).queue ++ [r], nextSeq := (s.cq h).nextSeq + 1 } ∧
    (∀ g, g ≠ h → (s.post c h e).cq g = s.cq g) ∧
    r = { r with
      seq := (s.cq h).nextSeq, ctx := c, cause := e.cause, wph := e.wph, drainLost := e.drainLost, dataLost := e.dataLost
      moved := (s.ctx c).moved, residual := (s.ctx c).residual, faultAddr := e.faultAddr } ∧
    (e.cause.ordinary = true → (s.ctx c).rep = true →
      r.reloaded = true ∧ r.linkTaken = false ∧ r.linkRefused = false ∧
      (∀ d, (s.post c h e).ctx d = if d = c then (s.ctx c).reloaded else s.ctx d) ∧
      (∀ w, (s.post c h e).window w = s.window w) ∧ (∀ n, (s.post c h e).line n = s.line n) ∧
      ∀ g, (s.post c h e).readyList g =
        if g = h ∧ (s.ctx c).suspendPending = false then s.readyList h ++ [c] else s.readyList g) ∧
    (e.cause.ordinary = false ∨ (s.ctx c).rep = false ∧ (s.ctx c).parts.link = false →
      r.reloaded = false ∧ r.linkTaken = false ∧ r.linkRefused = false ∧ Released s (s.post c h e) c ∧
      (∀ d, (s.post c h e).ctx d = if d = c then (s.ctx c).claimedAgain else s.ctx d) ∧
      ∀ g, (s.post c h e).readyList g = s.readyList g) ∧
    (e.cause.ordinary = true → (s.ctx c).rep = false → (s.ctx c).parts.link = true → ∃ t : State,
      Released s t c ∧ t = { s with ctxs := t.ctxs, windows := t.windows, lines := t.lines } ∧
      (∀ d, t.ctx d = if d = c then (s.ctx c).claimedAgain else s.ctx d) ∧ r.reloaded = false ∧
      ((t.ctx (s.ctx c).link).owner = some h ∧ MayStart t (s.ctx c).link h →
        r.linkTaken = true ∧ r.linkRefused = false ∧ Started t (s.post c h e) (s.ctx c).link h ∧
        ∀ d, d ≠ (s.ctx c).link → (s.post c h e).ctx d = t.ctx d) ∧
      (¬((t.ctx (s.ctx c).link).owner = some h ∧ MayStart t (s.ctx c).link h) →
        r.linkTaken = false ∧ r.linkRefused = true ∧ (∀ d, (s.post c h e).ctx d = t.ctx d) ∧
        (∀ w, (s.post c h e).window w = t.window w) ∧ (∀ n, (s.post c h e).line n = t.line n) ∧
        ∀ g, (s.post c h e).readyList g = s.readyList g))

/-! ## The L-bus -/

/-- GRANT_ARRIVAL: while LREQ is asserted and LOWN is not, LOWN is asserted, and in ASKING the Scheduler selects, while in PINNED
the write-out begins, in DRAINING where the service was ending its run (R93, R100), and no expiry of an earlier beat may come late
any more (log 30); else the level alone is recorded (R92).
GRANT_WITHDRAWAL: with LOWN deasserted, or the grant already lost, the level alone is recorded; a beat in flight stays in flight,
and nothing changes but the note that the grant is lost and of what was taken before it (R95, R115, R118; log 5, 17, 24). With
no beat in flight the part gives the bus up at once, with no selection in ASKING, and settles a service before its first strobe
(R95; log 7). -/
def Obligations.GrantTakenAndWithdrawn : Prop :=
  ∀ s : State,
    (s.engine.lreq = true → s.engine.lown = false → s.engine.state = .asking →
      exec .grantArrival s = .next (s.setEngine { s.engine with
        lgnt := true, lown := true
        rival := if s.engine.rival = some .expiry then none else s.engine.rival }).select) ∧
    (∀ v, s.engine.lreq = true → s.engine.lown = false → s.engine.state = .pinned → s.engine.service = some v →
      exec .grantArrival s = .next (s.setEngine { s.engine with
        lgnt := true, lown := true, state := if v.pinEnding = true then .draining else .writing
        rival := if s.engine.rival = some .expiry then none else s.engine.rival }).issueBeat) ∧
    (s.engine.lreq = false ∨ s.engine.lown = true →
      exec .grantArrival s = .next (s.setEngine { s.engine with lgnt := true })) ∧
    (s.engine.lown = false ∨ s.engine.losing.isSome = true →
      exec .grantWithdrawal s = .next (s.setEngine { s.engine with lgnt := false })) ∧
    (∀ v, s.engine.lown = true → s.engine.losing = none → s.engine.beat.isSome = true → s.engine.service = some v →
      exec .grantWithdrawal s = .next (s.setEngine { s.engine with
        lgnt := false
        losing := some { abortFirst := (s.ctx v.ctx).abortPending, cutFirst := s.cutWaiting v } })) ∧
    (s.engine.lown = true → s.engine.losing = none → s.engine.beat = none →
      (s.engine.service = none → exec .grantWithdrawal s = .next (s.setEngine { s.engine with
        lgnt := false, state := .asking, beat := none, lown := false, lreq := true, losing := none }).reevaluate) ∧
      ∀ v, s.engine.service = some v → exec .grantWithdrawal s = .next (s.setEngine { s.engine with
        lgnt := false
        losing := some { abortFirst := (s.ctx v.ctx).abortPending, cutFirst := s.cutWaiting v } }).settleLoss)

/-- The loss of the grant settled where the engine would have gone on, by Table 5-1 (R96): a unit half read is discarded first, with
DATA_LOST from a side-effect source (R115). A MOVE with side-effect units buffered pins, keeping record and buffer, a unit half
written included (R99); an abort taken after the withdrawal then reaches it at the pin, and the buffer is lost with DATA_LOST (R115,
log 17). Else a service that is ending its run ends (R98); else the context yields, at the head of its list or SUSPENDED, the pointer
unchanged, and an uncommitted PACED request is in force again (R97). A cut that waits finds what is left (R118, log 5); one at a pin
is in ServiceCutMade. A grant asserted again before LOWN fell is a new arrival (R93, log 8): after a pin the write-out begins (R100),
after a yield the Scheduler selects where LREQ stands, and after an early end ServiceEnds says it. Between the grant and an abort
at a pin the order is free (log 28). -/
def Obligations.GrantLossSettled : Prop :=
  ∀ (s q : State) (v u : Service) (g : GrantLoss) (h : HostNo) (left : Option Byte),
    s.engine.service = some v → s.engine.losing = some g → (s.ctx v.ctx).owner = some h →
    q = s.setWd h ((s.wd h).map fun w => if w.step = .cutting then { w with step := .contexts } else w) →
    u = (if s.engine.state = .reading ∧ v.half = true then
        { v with
          half := false, termMark := false
          dataLost := v.dataLost || (decide (v.kind ≠ .fill) && (s.window v.srcWin).sideEffect) }
      else v) →
    left = (if s.engine.state = .reading ∧ v.half = true then none else s.engine.partialByte) →
    s.proceed = s.settleLoss ∧
    (v.kind ≠ .fill ∧ (s.window v.srcWin).sideEffect = true ∧ s.engine.buffer ≠ [] → s.uncut v → ∃ p : State,
      p = s.setEngine { s.engine with
        state := .pinned, beat := none, lown := false, lreq := true, losing := none, partialByte := left
        service := some { u with burst := 0, writeOut := true, pinEnding := s.isEnding v } } ∧
      ((s.ctx v.ctx).abortPending = false ∨ g.abortFirst = true →
        (s.engine.lgnt = false → s.settleLoss = p) ∧
        (s.engine.lgnt = true → s.settleLoss = (p.setEngine { p.engine with
          lown := true, state := if s.isEnding v = true then .draining else .writing }).issueBeat)) ∧
      ((s.ctx v.ctx).abortPending = true → g.abortFirst = false → ∃ w : Service,
        w = { u with burst := 0, writeOut := true, pinEnding := true, dataLost := true } ∧
        (s.engine.lgnt = false →
          s.settleLoss = (p.setEngine { p.engine with buffer := [], service := some w }).endService) ∧
        (s.engine.lgnt = true →
          s.settleLoss = (p.countChoice.setEngine { p.engine with lown := true, state := .draining }).issueBeat ∨
          s.settleLoss = (p.countChoice.setEngine { p.engine with buffer := [], service := some w }).endService))) ∧
    (¬(v.kind ≠ .fill ∧ (s.window v.srcWin).sideEffect = true ∧ s.engine.buffer ≠ []) →
      (s.isEnding v = true → s.settleLoss = (q.setEngine { s.engine with partialByte := left, service := some u }).endService) ∧
      (s.isEnding v = false → ∃ t r : State,
        r = ((t.answerWaiter v.ctx).setEngine { s.engine with
            state := .asking, service := none, buffer := [], partialByte := none, beat := none, lown := false, lreq := true
            losing := none }).reevaluate ∧
        (s.engine.lgnt = false ∨ r.engine.lreq = false → s.settleLoss = r) ∧
        (s.engine.lgnt = true → r.engine.lreq = true →
          s.settleLoss = (r.setEngine { r.engine with lown := true }).select) ∧
        t.ctx v.ctx = { s.ctx v.ctx with
          state := if (s.ctx v.ctx).suspendPending = true then .suspended else .ready, suspendPending := false } ∧
        (∀ d, d ≠ v.ctx → t.ctx d = s.ctx d) ∧
        (∀ f, t.readyList f =
          if f = h ∧ (s.ctx v.ctx).suspendPending = false then v.ctx :: s.readyList h else s.readyList f) ∧
        (∀ n, t.line n = if v.trigger.isPaced = true ∧ (s.ctx v.ctx).trigger.lineNo = some n ∧
          v.unitsCommitted = 0 then { s.line n with armed := true } else s.line n) ∧
        t.sched.mark = none ∧
        t = { q with ctxs := t.ctxs, lines := t.lines, engine := t.engine
                     sched := { s.sched with ready := t.sched.ready, mark := none } }))

/-- A beat as the engine issues it (R78, R80, R83, R85, R86, R128, R132): direction, address, byte or word, the lanes of a write,
RAn on the device side, TERM on the device-side beat of the last byte of the run's last unit, and LBUR while the burst has beats
to come; a side that may not burst issues single beats. A burst is the longest run of the beats to come that holds at most 8 and
stays in the 16-byte block of the first; every beat of a burst of two or more, the last included, belongs to it (R88). The model's
own: a lane that carries nothing is none (log 10), no TERM on a discarded beat of a CHECK (log 21), and how the beats to come are
counted, `phaseBeats` and `unitsLeft` (log 22). -/
def Obligations.BeatsShaped : Prop :=
  (∀ (b : Addr × Bool) (bs : List (Addr × Bool)),
    1 ≤ burstLength (b :: bs) ∧ burstLength (b :: bs) ≤ 8 ∧ burstLength (b :: bs) ≤ (b :: bs).length ∧
    (∀ x ∈ (b :: bs).take (burstLength (b :: bs)), x.1.extractLsb' 4 20 = b.1.extractLsb' 4 20) ∧
    (burstLength (b :: bs) < 8 → ∀ x, (b :: bs)[burstLength (b :: bs)]? = some x →
      x.1.extractLsb' 4 20 ≠ b.1.extractLsb' 4 20)) ∧
  ∀ (s : State) (v : Service), s.engine.service = some v → s.engine.state.onBus = true →
    ∃ (b : Beat) (n : Nat) (w : Window) (base : Addr) (reading : Bool),
      s.issueBeat = s.setEngine { s.engine with beat := some b, service := some { v with burst := n } } ∧
      (reading = true ↔ s.engine.state = .reading) ∧
      w = s.window (if reading then v.srcWin else v.dstWin) ∧
      base = (if reading then v.readAddr else (s.ctx v.ctx).curDst) ∧
      b.write = !reading ∧ b.addr = (if v.half = true then base + 1 else base) ∧
      (b.byte = false ↔ w.inForce = some .w16 ∧ v.unit = .two ∧ v.half = false) ∧
      (∀ m, b.ra = some m ↔ ∃ d p, v.trigger = .line m d p ∧ (d = .source ↔ reading = true)) ∧
      (b.term = true ↔ b.ra ≠ none ∧ (v.unit = .one ∨ b.byte = false ∨ v.half = true) ∧
        (reading = true → v.endDecided = none) ∧
        (s.ctx v.ctx).residual.toNat = (if reading then s.engine.buffer.length else 0) + 1) ∧
      (b.bur = true ↔ n ≠ 0) ∧ (b.inBurst = true ↔ v.burst ≠ 0 ∨ n ≠ 0) ∧
      (v.burst ≠ 0 → n + 1 = v.burst) ∧
      (v.burst = 0 → ¬((if reading then v.srcStep else v.dstStep) = .inc ∧ w.burstAllowed = true ∧ w.demoted = false ∧
        w.inForce ≠ none ∧ ¬(reading = true ∧ w.sideEffect = true)) → n = 0) ∧
      (v.burst = 0 → (if reading then v.srcStep else v.dstStep) = .inc → w.burstAllowed = true → w.demoted = false →
        w.inForce ≠ none → ¬(reading = true ∧ w.sideEffect = true) →
        n = burstLength (phaseBeats v.unit w.inForce v.half (s.unitsLeft v) base) - 1) ∧
      (reading = true → b.hi = none ∧ b.lo = none) ∧
      ∀ x1 x0 : Byte, reading = false →
        (v.kind = .fill ∧ v.unit = .two ∧ (s.ctx v.ctx).pattern = x1 ++ x0 ∨
          v.kind = .fill ∧ v.unit = .one ∧ (s.ctx v.ctx).pattern.extractLsb' 0 8 = x1 ∨
          v.kind = .move ∧ v.unit = .two ∧ (s.engine.buffer.map BufUnit.bytes).head? = some [x1, x0] ∨
          v.kind = .move ∧ v.unit = .one ∧ (s.engine.buffer.map BufUnit.bytes).head? = some [x1]) →
        (v.half = true → v.unit = .two) →
        (b.byte = false → b.hi = some x1 ∧ b.lo = some x0) ∧
        (b.byte = true → w.inForce = some .w8 → b.hi = none ∧ b.lo = some (if v.half = true then x0 else x1)) ∧
        (b.byte = true → w.inForce = some .w16 → b.addr.getLsbD 0 = false →
          b.hi = some (if v.half = true then x0 else x1) ∧ b.lo = none) ∧
        (b.byte = true → w.inForce = some .w16 → b.addr.getLsbD 0 = true →
          b.hi = none ∧ b.lo = some (if v.half = true then x0 else x1)) ∧
        (b.byte = true → w.inForce = none →
          b.hi = some (if v.half = true then x0 else x1) ∧ b.lo = some (if v.half = true then x0 else x1))

/-- BEAT_ANSWER, a plain answer to the read beat that ends a unit of a MOVE: the unit, its bytes in bus order, joins the tail of
the buffer, nothing is committed, and reading goes on; it stops by a TERM mark or an abort (DRAINING), with L units read
(WRITING), or by a STREAM stop (DRAINING) (R71, R113, R126, R130). That the stop is made also where the grant is being lost is the
model's reading, log 19; so is the address after a unit at the top or bottom of the address space, log 27. The other completing
answers are reduced to a plain one by AnswersTeachWindow. -/
def Obligations.MoveUnitRead : Prop :=
  ∀ (s : State) (a : Answer) (ld : Half) (term : Bool) (v : Service) (b : Beat),
    s.engine.service = some v → s.engine.beat = some b → s.engine.state = .reading → v.kind = .move → b.write = false →
    s.uncut v → s.plainAnswer v b a → v.lastByte b → v.endDecided = none →
    ∃ (bytes : List Byte) (next : EngState),
      exec (.beatAnswer a ld term) s = .next (s.setEngine { s.engine with
        beat := none, rival := s.rivalOf v b .answer, partialByte := none
        buffer := s.engine.buffer ++ [({ bytes := bytes, marked := v.unitMarked b term } : BufUnit)]
        state := next
        service := some { v with
          half := false, termMark := false, unitsRead := v.unitsRead + 1, readAddr := unitAfter v.readAddr v.srcStep v.unit
          burst := if next = .reading then v.burst else 0 } }).proceed ∧
      (b.byte = false → bytes = [ld.extractLsb' 8 8, ld.extractLsb' 0 8]) ∧
      (∀ x : Byte, (b.byte = true ∧ x = if a.width = .w16 ∧ b.addr.getLsbD 0 = false then ld.extractLsb' 8 8 else ld.extractLsb' 0 8) →
        (v.half = false → bytes = [x]) ∧ (∀ p, v.half = true → s.engine.partialByte = some p → bytes = [p, x])) ∧
      next =
        if v.unitMarked b term = true ∨ (s.ctx v.ctx).abortPending = true then .draining
        else if v.length ≤ v.unitsRead + 1 then .writing
        else if v.trigger.isStream = true ∧ v.onSide .source = true ∧ v.reqDropped = true ∧ v.writeOut = false then .draining
        else .reading

/-- BEAT_ANSWER, a plain answer to the first byte of a two-byte unit: the unit is half done, a byte read is the partial unit,
nothing is committed, and the engine goes on with the second byte (R70, R74, R80). While the grant is being lost the second byte of
a side-effect unit alone is still read, unless an abort was taken first, and the service is settled in every other case (R95, R96,
R115). An abort fetches no second byte and discards the partial unit, with DATA_LOST from a side-effect source (R113); a FILL
writes the second byte and no more (R114). That the announced burst of such a FILL is cut to its second byte is the model's
reading, log 22: R114 says that no further unit is written and nothing of the announced burst. -/
def Obligations.FirstByteCommitsNothing : Prop :=
  ∀ (s : State) (a : Answer) (ld : Half) (term : Bool) (v : Service) (b : Beat),
    s.engine.service = some v → s.engine.beat = some b → s.uncut v → s.plainAnswer v b a →
    v.unit = .two → b.byte = true → v.half = false →
    (b.write = false → v.endDecided = none → ∃ (t : State) (effect : Bool),
      t = s.setEngine { s.engine with
        beat := none, rival := s.rivalOf v b .answer
        partialByte := some (if a.width = .w16 ∧ b.addr.getLsbD 0 = false then ld.extractLsb' 8 8 else ld.extractLsb' 0 8)
        service := some { v with half := true, termMark := v.unitMarked b term } } ∧
      effect = (decide (v.kind ≠ .fill) && (s.window v.srcWin).sideEffect) ∧
      (s.engine.losing = none → (s.ctx v.ctx).abortPending = false → exec (.beatAnswer a ld term) s = .next t.issueBeat) ∧
      (s.engine.losing = none → (s.ctx v.ctx).abortPending = true → s.engine.state = .reading →
        (v.kind = .move → s.engine.buffer ≠ [] →
          exec (.beatAnswer a ld term) s = .next (s.setEngine { s.engine with
            beat := none, rival := s.rivalOf v b .answer, partialByte := none, state := .draining
            service := some { v with termMark := false, burst := 0, dataLost := v.dataLost || effect } }).issueBeat) ∧
        (v.kind ≠ .move ∨ s.engine.buffer = [] →
          exec (.beatAnswer a ld term) s = .next (s.setEngine { s.engine with
            beat := none, rival := s.rivalOf v b .answer, partialByte := none
            service := some { v with termMark := false, dataLost := v.dataLost || effect } }).endService)) ∧
      ∀ g, s.engine.losing = some g →
        (effect = true → g.abortFirst = false → exec (.beatAnswer a ld term) s = .next t.issueBeat) ∧
        (effect = false ∨ g.abortFirst = true → exec (.beatAnswer a ld term) s = .next t.settleLoss)) ∧
    (b.write = true → ∃ t : State,
      t = s.setEngine { s.engine with
        beat := none, rival := s.rivalOf v b .answer
        service := some { v with
          half := true, termMark := if v.endDecided = none then v.unitMarked b term else v.termMark
          burst := if v.kind = .fill ∧ (s.ctx v.ctx).abortPending = true then min v.burst 1 else v.burst } } ∧
      (s.engine.losing = none → exec (.beatAnswer a ld term) s = .next t.issueBeat) ∧
      (s.engine.losing ≠ none → exec (.beatAnswer a ld term) s = .next t.settleLoss))

/-- BEAT_ANSWER, a plain answer to the write beat that ends a unit of a MOVE or a FILL: the unit is committed (R74), and the tests
of R75 decide: COUNT at residual 0, in place of a TERM decided earlier too (R112); a TERM mark ends the run, after the drain of
side-effect units (R131), and with an end decided no mark is taken (R129); else the service goes on, stops by STREAM (R126), by an
abort of a FILL (R114), or ends with its last unit, with the end decided if there is one. The model's readings: a TERM mark counts
in every DRAINING, after a read failure or an abort too (log 18); no STREAM stop in DRAINING, and one where the grant is being lost
(log 19); the address after a unit at the top or bottom of the address space (log 27). -/
def Obligations.WrittenUnitCommitted : Prop :=
  ∀ (s : State) (a : Answer) (ld : Half) (term marked : Bool) (v : Service) (b : Beat),
    s.engine.service = some v → s.engine.beat = some b → v.kind ≠ .check → b.write = true →
    s.uncut v → s.plainAnswer v b a → v.lastByte b →
    marked = (v.endDecided.isNone && (v.unitMarked b term || ((s.engine.buffer.map BufUnit.marked).head?.getD false))) →
    ((s.ctx v.ctx).residual = 1 →
      exec (.beatAnswer a ld term) s = .next (s.unitWritten v b (some .count)).endService) ∧
    ((s.ctx v.ctx).residual ≠ 1 → marked = true →
      (v.kind = .fill ∨ s.engine.buffer.tail = [] ∨ (s.window v.srcWin).sideEffect = false →
        exec (.beatAnswer a ld term) s = .next (s.unitWritten v b (some .term)).endService) ∧
      (v.kind = .move → s.engine.buffer.tail ≠ [] → (s.window v.srcWin).sideEffect = true →
        exec (.beatAnswer a ld term) s = .next ((s.unitWritten v b (some .term)).setEngine
          { (s.unitWritten v b (some .term)).engine with state := .draining }).proceed)) ∧
    ((s.ctx v.ctx).residual ≠ 1 → marked = false →
      (v.kind = .move → s.engine.buffer.tail = [] →
        exec (.beatAnswer a ld term) s = .next (s.unitWritten v b v.endDecided).endService) ∧
      (v.kind = .fill → v.length ≤ v.unitsCommitted + 1 ∨ (s.ctx v.ctx).abortPending = true →
        exec (.beatAnswer a ld term) s = .next (s.unitWritten v b v.endDecided).endService) ∧
      ((v.kind = .move ∧ s.engine.buffer.tail ≠ [] ∨
          v.kind = .fill ∧ v.unitsCommitted + 1 < v.length ∧ (s.ctx v.ctx).abortPending = false) →
        (v.trigger.isStream = false ∨ v.onSide .dest = false ∨ v.reqDropped = false ∨ v.writeOut = true ∨
            v.kind = .move ∧ s.engine.state = .draining →
          exec (.beatAnswer a ld term) s = .next (s.unitWritten v b v.endDecided).proceed) ∧
        (s.engine.state = .writing →
          v.trigger.isStream = true ∧ v.onSide .dest = true ∧ v.reqDropped = true ∧ v.writeOut = false →
          (v.kind = .move ∧ (s.window v.srcWin).sideEffect = true →
            exec (.beatAnswer a ld term) s = .next ((s.unitWritten v b v.endDecided).setEngine
              { (s.unitWritten v b v.endDecided).engine with state := .draining }).proceed) ∧
          (v.kind = .fill ∨ (s.window v.srcWin).sideEffect = false →
            exec (.beatAnswer a ld term) s = .next (s.unitWritten v b v.endDecided).endService))))

/-- BEAT_ANSWER, a plain answer to the read beat that ends a unit of a CHECK: the unit is compared under the mask and committed,
and the tests of R75 are made in the order COUNT, MATCH, TERM; with an end decided the announced beats are still read, their data
discarded without comparison or commit, and the service ends after the last of them (R73, R87). The model's readings: a STREAM
stop is made also where the grant is being lost (log 19), the read address goes on with the discarded beats (log 21), and the
address after a unit at the top or bottom of the address space (log 27). -/
def Obligations.CheckedUnitCommitted : Prop :=
  (∀ (s : State) (a : Answer) (ld : Half) (term : Bool) (v : Service) (b : Beat),
    s.engine.service = some v → s.engine.beat = some b → v.kind = .check → b.write = false → s.uncut v →
    s.plainAnswer v b a → v.endDecided ≠ none → ∃ t : State,
      (v.lastByte b → t = s.setEngine { s.engine with
        beat := none, rival := s.rivalOf v b .answer
        service := some { v with half := false, readAddr := unitAfter v.readAddr v.srcStep v.unit } }) ∧
      (¬v.lastByte b → t = s.setEngine { s.engine with
        beat := none, rival := s.rivalOf v b .answer, service := some { v with half := true } }) ∧
      exec (.beatAnswer a ld term) s = .next (if v.burst = 0 then t.endService else t.proceed)) ∧
  ∀ (s : State) (a : Answer) (ld : Half) (term : Bool) (v : Service) (b : Beat) (unit : Half),
    s.engine.service = some v → s.engine.beat = some b → s.engine.state = .reading → v.kind = .check → b.write = false →
    s.uncut v → s.plainAnswer v b a → v.lastByte b → v.endDecided = none → (v.half = true → v.unit = .two) →
    (v.unit = .two ∧ b.byte = false ∧ unit = ld ∨
      ∃ x : Byte, b.byte = true ∧
        x = (if a.width = .w16 ∧ b.addr.getLsbD 0 = false then ld.extractLsb' 8 8 else ld.extractLsb' 0 8) ∧
        (v.unit = .one ∧ unit = 0#8 ++ x ∨ v.half = true ∧ ∃ p, s.engine.partialByte = some p ∧ unit = p ++ x)) →
    ∃ (mask : Half) (decided : Option Cause) (t : State),
      mask = (if v.unit = .two then (s.ctx v.ctx).mask else (s.ctx v.ctx).mask &&& 0x00FF) ∧
      decided = (if (s.ctx v.ctx).residual = 1 then some .count
        else if unit &&& mask = (s.ctx v.ctx).pattern &&& mask then some .matched
        else if v.unitMarked b term = true then some .term else none) ∧
      t = (s.setCtx v.ctx (s.ctx v.ctx).committed).setEngine { s.engine with
        beat := none, rival := s.rivalOf v b .answer, partialByte := none
        service := some { v with
          half := false, termMark := false, unitsRead := v.unitsRead + 1, unitsCommitted := v.unitsCommitted + 1
          readAddr := unitAfter v.readAddr v.srcStep v.unit, endDecided := decided } } ∧
      (decided ≠ none → exec (.beatAnswer a ld term) s = .next (if v.burst = 0 then t.endService else t.proceed)) ∧
      (decided = none → exec (.beatAnswer a ld term) s = .next
        (if v.length ≤ v.unitsCommitted + 1 ∨ (s.ctx v.ctx).abortPending = true ∨
            v.trigger.isStream = true ∧ v.onSide .source = true ∧ v.reqDropped = true ∧ v.writeOut = false then t.endService
          else t.proceed))

/-- A completing answer teaches an AUTO window its width and, as SGL to a beat of a burst, ends the burst and demotes the window;
on the data and the run it acts as the ANS answer of its width in the window so taught (R79, R82, R83, R84, R88). An answer of the
other width, or any failed beat, teaches and demotes nothing (R82, R88, R103). An ORPHAN window behaves so too, unless it closes
with its last reference (R45). -/
def Obligations.AnswersTeachWindow : Prop :=
  ∀ (s : State) (v : Service) (b : Beat) (w : WinNo),
    s.engine.service = some v → s.engine.beat = some b → w = v.beatWindow b → (s.window w).state ≠ .closed →
    (∀ (a : Answer) (ld : Half) (term : Bool), s.engine.rival ≠ some .answer →
      (s.window w).inForce = none ∨ (s.window w).inForce = some a.width →
      ∃ (x : Window) (t : State),
        x = { s.window w with
          learned := if (s.window w).width = .auto ∧ (s.window w).learned = none then some a.width else (s.window w).learned
          demoted := (s.window w).demoted || (a.single && b.inBurst) } ∧
        exec (.beatAnswer a ld term) s =
          exec (.beatAnswer (if a.width = .w8 then .ans8 else .ans16) ld term) ((s.setWindow w x).setEngine { s.engine with
            service := some { v with burst := if a.single = true ∧ b.inBurst = true then 0 else v.burst } }) ∧
        exec (.beatAnswer a ld term) s = .next t ∧
        ((t.window w).state ≠ .closed → t.window w = { x with refs := (t.window w).refs }) ∧
        ((t.window w).state = .closed → (s.window w).state = .orphan ∧ (t.window w).refs = 0)) ∧
    ∀ i k, s.failsWith i k → ∃ t, exec i s = .next t ∧
      ((t.window w).state ≠ .closed → t.window w = { s.window w with refs := (t.window w).refs }) ∧
      ((t.window w).state = .closed → (s.window w).state = .orphan ∧ (t.window w).refs = 0)

/-- A failed beat, by FAULT_ANSWER, ACK_TIMEOUT or a BEAT_ANSWER of the other width: cause, phase and address are recorded unless a
failure stands; in the read phase a MOVE drains what it holds complete, and a half-read side-effect unit is lost (R108); a CHECK
ends at once, with a decided end unharmed (R109); a write failure discards the buffer and ends the run (R110), in DRAINING with
DRAIN_LOST (R111). With no beat in flight, or no limit on its window, nothing fails (R78, R105; log 9, 24). Where an answer and
the expiry of one beat raced, the one taken second has no effect on the beat then in flight (R105, R106); an arrival that may be
it, or that of the beat in flight, is either by the model's free choice; with no beat in flight, or no limit, it can only be the late
one, and the next is then of its own beat (log 30). -/
def Obligations.FailuresHandled : Prop :=
  (∀ s : State,
    (∀ v b, s.engine.service = some v → s.engine.beat = some b → (s.window (v.beatWindow b)).ackLimit = 0 →
      exec .ackTimeout s = .next (s.setEngine { s.engine with
        rival := if s.engine.rival = some .expiry then none else s.engine.rival })) ∧
    (s.engine.beat = none →
      exec .ackTimeout s = .next (s.setEngine { s.engine with
        rival := if s.engine.rival = some .expiry then none else s.engine.rival }) ∧
      ∀ i, ((∃ a ld term, i = .beatAnswer a ld term) ∨ ∃ code, i = .faultAnswer code) →
        exec i s = .next (s.setEngine { s.engine with
          rival := if s.engine.rival = some .answer then none else s.engine.rival }))) ∧
  (∀ (s : State) (v : Service) (b : Beat), s.engine.service = some v → s.engine.beat = some b →
    s.rivalOf v b .expiry = some .answer ∧
    s.rivalOf v b .answer = (if (s.window (v.beatWindow b)).ackLimit = 0 then none else some .expiry) ∧
    ∀ i : Instr,
      ((∃ a ld term, i = .beatAnswer a ld term) ∨ (∃ code, i = .faultAnswer code)) ∧ s.engine.rival = some .answer ∨
        i = .ackTimeout ∧ (s.window (v.beatWindow b)).ackLimit ≠ 0 ∧ s.engine.rival = some .expiry →
      exec i s = .next (s.countChoice.setEngine { s.engine with rival := none }) ∨
        exec i s = exec i (s.countChoice.setEngine { s.engine with rival := none })) ∧
  ∀ (s : State) (i : Instr) (k : Cause) (v : Service) (b : Beat) (left : Option Rival),
    s.failsWith i k → s.engine.service = some v → s.engine.beat = some b → s.uncut v →
    left = s.rivalOf v b (if k = .timeout then .expiry else .answer) →
    (s.engine.state = .reading → ¬(v.kind = .check ∧ v.endDecided ≠ none) → ∃ t : State,
      t = s.setEngine { s.engine with
        beat := none, rival := left
        partialByte := if v.half = true then none else s.engine.partialByte
        service := some { v with
          burst := 0, half := false, termMark := if v.half = true then false else v.termMark
          failure := v.failure.or (some { cause := k, phase := .read, addr := b.addr })
          dataLost := v.dataLost ||
            (v.half && decide (v.kind ≠ .fill) && (s.window v.srcWin).sideEffect) } } ∧
      (v.kind = .move → s.engine.buffer ≠ [] →
        exec i s = .next (t.setEngine { t.engine with state := .draining }).proceed) ∧
      (v.kind ≠ .move ∨ s.engine.buffer = [] → exec i s = .next t.endService)) ∧
    (s.engine.state = .reading → v.kind = .check → v.endDecided ≠ none →
      exec i s = .next (s.setEngine { s.engine with
        beat := none, rival := left, service := some { v with burst := 0 } }).endService) ∧
    (s.engine.state = .writing ∨ s.engine.state = .draining →
      exec i s = .next (s.setEngine { s.engine with
        beat := none, rival := left, buffer := []
        service := some { v with
          burst := 0
          failure := v.failure.or (some { cause := k, phase := .write, addr := b.addr })
          drainLost := v.drainLost || decide (s.engine.state = .draining)
          dataLost := v.dataLost || (decide (v.kind ≠ .fill) && (s.window v.srcWin).sideEffect) } }).endService)

/-- The end of the service in flight (R22, R60, R77, R112): without a cause the context goes to the tail of its list, or to
SUSPENDED; with one its run ends, the cause the end decided, else the failure, else ABORT; the pointer moves past the mark; an
ABT or SUS that waits is answered; then, in the same step (log 26), a selection is due, or with the grant lost the bus is given
up: the engine asks again where work is present, and a grant asserted again before LOWN fell is a new arrival, at which the
Scheduler selects (R93, R95, log 8). Where the posting changes a ready list and a selection may follow,
the selection may come first (R51, a free choice, log 6). -/
def Obligations.ServiceEnds : Prop :=
  (∀ s r : State,
    r = (s.setEngine { s.engine with state := .asking, beat := none, lown := false, lreq := true, losing := none }).reevaluate →
    (s.engine.lgnt = false ∨ r.engine.lreq = false → s.leaveBus = r) ∧
    (s.engine.lgnt = true → r.engine.lreq = true → s.leaveBus = (r.setEngine { r.engine with lown := true }).select)) ∧
  ∀ (s : State) (v : Service) (h : HostNo), s.engine.service = some v → (s.ctx v.ctx).owner = some h →
    (v.endDecided = none → v.failure = none → (s.ctx v.ctx).abortPending = false → ∃ t : State,
      t = (if (s.ctx v.ctx).suspendPending = true then
          s.withoutService.pointerMoved.setCtx v.ctx { s.ctx v.ctx with state := .suspended, suspendPending := false }
        else
          (s.withoutService.pointerMoved.setCtx v.ctx { s.ctx v.ctx with state := .ready }).setReady h
            (s.readyList h ++ [v.ctx])) ∧
      (s.engine.lown = true → s.engine.losing = none → s.endService = (t.answerWaiter v.ctx).select) ∧
      (s.engine.lown = false ∨ s.engine.losing ≠ none → s.endService = (t.answerWaiter v.ctx).leaveBus)) ∧
    ∀ e : RunEnd, e.drainLost = v.drainLost → e.dataLost = v.dataLost →
      (v.endDecided = some e.cause ∧ e.wph = false ∧ e.faultAddr = none ∨
        v.endDecided = none ∧ (∃ f, v.failure = some f ∧ e.cause = f.cause ∧ e.wph = decide (f.phase = .write) ∧
          e.faultAddr = some f.addr) ∨
        v.endDecided = none ∧ v.failure = none ∧ (s.ctx v.ctx).abortPending = true ∧ e.cause = .abort ∧ e.wph = false ∧
          e.faultAddr = none) →
      ∃ (t : State) (go : State → State), t = (s.withoutService.pointerMoved.runEnds v.ctx h e).answerWaiter v.ctx ∧
        (s.engine.lown = true → s.engine.losing = none → go = State.select) ∧
        (s.engine.lown = false ∨ s.engine.losing ≠ none → go = State.leaveBus) ∧
        (t.sched.ready = s.sched.ready → s.endService = go t) ∧
        (s.engine.lown = false ∨ s.engine.losing ≠ none → s.engine.lgnt = false → s.endService = go t) ∧
        (s.endService = go t ∨ s.endService = go t.countChoice ∨
          s.endService = (((go s.withoutService.pointerMoved.countChoice).runEnds v.ctx h e).answerWaiter v.ctx).reevaluate)

/-! ## Request lines -/

/-- REQUEST_OBSERVED_ASSERTED and REQUEST_OBSERVED_DEASSERTED: the level is recorded; on a bound line a deassertion sets the armed
flag and marks a STREAM service of the bound context in flight, and both observations are reported to the Scheduler (R120,
R123, R125). -/
def Obligations.RequestObserved : Prop :=
  ∀ (s : State) (n : LineNo),
    ((s.line n).bound = none →
      exec (.requestObservedAsserted n) s = .next (s.setLine n { s.line n with level := true }) ∧
      exec (.requestObservedDeasserted n) s = .next (s.setLine n { s.line n with level := false })) ∧
    ∀ c, (s.line n).bound = some c →
      exec (.requestObservedAsserted n) s = .next (s.setLine n { s.line n with level := true }).reevaluate ∧
      (∀ v, s.engine.service = some v → v.ctx = c → v.trigger.isStream = true →
        exec (.requestObservedDeasserted n) s = .next (((s.setLine n { s.line n with level := false, armed := true }).setEngine
          { s.engine with service := some { v with reqDropped := true } }).reevaluate)) ∧
      ((∀ v, s.engine.service = some v → v.ctx ≠ c ∨ v.trigger.isStream = false) →
        exec (.requestObservedDeasserted n) s =
          .next (s.setLine n { s.line n with level := false, armed := true }).reevaluate)

/-! ## Withdrawal -/

/-- SERVICE_CUT, and step 2 as NEXT_WITHDRAWAL_STEP: with a beat in flight the cut waits, and the beat's end, by an answer or a
failure that is not a late arrival of the beat before (R106, log 30), makes it; with none, as in PINNED, it is made at once
(R118; the two commands by log 4). Where a withdrawal of the grant waits for the same beat, the one taken first has its way (R118,
log 5): the cut, or the settlement by Table 5-1, of which a pin is cut at once and the rest is in GrantLossSettled. The answer commits
nothing and records no failure in either. -/
def Obligations.ServiceCutMade : Prop :=
  ∀ (s : State) (h : HostNo) (v : Service) (w : Withdrawal), CoreSound s →
    s.engine.service = some v → (s.ctx v.ctx).owner = some h → s.wd h = some w → w.step = .cut ∨ w.step = .cutting →
    (∀ i, i = .serviceCut ∨ i = .nextWithdrawalStep h →
      (s.engine.beat.isSome = true → exec i s = .next (s.setWd h (some { w with step := .cutting }))) ∧
      (s.engine.beat = none → ∃ t, exec i s = .next t ∧ CutMade s t h v.ctx w)) ∧
    (w.step = .cutting → ∀ b, s.engine.beat = some b →
      (s.engine.losing = none ∨ (∃ g, s.engine.losing = some g ∧ g.cutFirst = true) → ∀ i,
        (s.engine.rival ≠ some .answer ∧ ((∃ a ld term, i = .beatAnswer a ld term) ∨ ∃ code, i = .faultAnswer code)) ∨
          (s.engine.rival ≠ some .expiry ∧ i = .ackTimeout ∧ (s.window (v.beatWindow b)).ackLimit ≠ 0) →
        ∃ t, exec i s = .next t ∧ CutMade s t h v.ctx w) ∧
      ∀ g, s.engine.losing = some g → g.cutFirst = false →
        (∀ a ld term, s.plainAnswer v b a → exec (.beatAnswer a ld term) s = .next (s.setEngine { s.engine with
          beat := none, rival := s.rivalOf v b .answer }).settleLoss) ∧
        (∀ i k, s.failsWith i k → exec i s = .next (s.setEngine { s.engine with
          beat := none, rival := s.rivalOf v b (if k = .timeout then .expiry else .answer)
          service := some { v with burst := 0 } }).settleLoss) ∧
        (v.kind ≠ .fill → (s.window v.srcWin).sideEffect = true → s.engine.buffer ≠ [] →
          (∀ a ld term, s.plainAnswer v b a → ∃ t, exec (.beatAnswer a ld term) s = .next t ∧ CutMade s t h v.ctx w) ∧
          ∀ i k, s.failsWith i k → ∃ t, exec i s = .next t ∧ CutMade s t h v.ctx w))

/-- NEXT_WITHDRAWAL_STEP (R161): step 1 where a passed command delayed it (R163, log 3), step 2 with nothing to cut, step 3 frees the
contexts of the host and what they hold (R28), step 4 closes its windows or leaves them ORPHAN (R44), step 5 empties its queue
(R149), step 6 resets its weight and completes the withdrawal (R64, R160, R162). -/
def Obligations.WithdrawalStepsTaken : Prop :=
  ∀ (s : State) (h : HostNo),
    (s.wd h = none → exec (.nextWithdrawalStep h) s = .next s) ∧
    ∀ w, s.wd h = some w →
      (w.step = .begin → (s.port h).passed.isSome = true → exec (.nextWithdrawalStep h) s = .next s) ∧
      (w.step = .begin → (s.port h).passed = none →
        exec (.nextWithdrawalStep h) s = .next (s.setWd h (some { w with step := .cut })).reevaluate) ∧
      (w.step = .cut ∨ w.step = .cutting → (∀ v, s.engine.service = some v → (s.ctx v.ctx).owner ≠ some h) →
        exec (.nextWithdrawalStep h) s = .next (s.setWd h (some { w with step := .contexts }))) ∧
      (w.step = .contexts → Sound s → (∀ c, (s.ctx c).owner = some h → (s.ctx c).state ≠ .active) → ∃ t : State,
        exec (.nextWithdrawalStep h) s = .next t.reevaluate ∧
        (∀ c, t.ctx c = if (s.ctx c).owner = some h then (s.ctx c).withdrawn else s.ctx c) ∧
        (∀ g, t.readyList g = if g = h then [] else s.readyList g) ∧
        (∀ g, t.cq g = if g = h then { s.cq h with held := [] } else s.cq g) ∧
        (∀ u, t.window u =
          if (s.window u).state = .orphan ∧ (s.window u).refs ≤ s.usesBy h u then
            { s.window u with state := .closed, creator := none, share := 0, learned := none, demoted := false, refs := 0 }
          else { s.window u with refs := (s.window u).refs - s.usesBy h u }) ∧
        (∀ n, t.line n = if (∃ c, (s.line n).bound = some c ∧ (s.ctx c).owner = some h) then
          { s.line n with bound := none, armed := false } else s.line n) ∧
        (∀ g, t.wd g = if g = h then some { w with step := .windows } else s.wd g) ∧
        t = { s with
          ctxs := t.ctxs, windows := t.windows, lines := t.lines, cqs := t.cqs, wds := t.wds
          sched := { s.sched with ready := t.sched.ready } }) ∧
      (w.step = .windows → ∃ t : State, exec (.nextWithdrawalStep h) s = .next t ∧
        (∀ u, t.window u =
          if (s.window u).state = .opened ∧ (s.window u).creator = some h then
            if (s.window u).refs = 0 then
              { s.window u with state := .closed, creator := none, share := 0, learned := none, demoted := false }
            else { s.window u with state := .orphan, creator := none }
          else s.window u) ∧
        t = { s.setWd h (some { w with step := .queue }) with windows := t.windows }) ∧
      (w.step = .queue → exec (.nextWithdrawalStep h) s = .next ((s.setCq h
        { s.cq h with queue := [], nextSeq := 0 }).setWd h (some { w with step := .weight }))) ∧
      (w.step = .weight → exec (.nextWithdrawalStep h) s = .next ((((((s.setWeight h 1).setRing
          (ringOf (s.setWeight h 1).sched.weights) 0).setMark none).setWd h none).setPort h
        (if (s.port h).state = .withdrawing then
          if w.byRsn = true then { s.port h with state := .idle, latch := none, response := [0x00], err := false }
          else { s.port h with state := .idle, latch := none, response := [], ovr := false, err := false }
        else s.port h)).reevaluate))

/-- A command that a port had passed to its block before a withdrawal began is taken with all its effects, those of the same
command at a port that is still EXECUTING; its result, and its wait on a service, are discarded, and step 1 of the withdrawal
follows it (R163; the row's step by log 3). -/
def Obligations.LateCommandResultDiscarded : Prop :=
  ∀ (s : State) (h : HostNo) (k : Cmd) (ps : List Byte) (w : Withdrawal),
    (s.port h).state ≠ .executing → (s.port h).passed = some { cmd := k, params := ps, waiting := none } →
    s.wd h = some w → w.step = .begin → k ≠ .rsn →
    ∃ u, exec (k.row h) (s.setPort h { s.port h with state := .executing }) = .next u ∧
      exec (k.row h) s = .next (((u.setPort h { s.port h with passed := none }).setWd h
        (some { w with step := .cut })).reevaluate)

/-! ## What every step keeps -/

/-- The commands of one host leave every other host's port, queue, held list, sequence numbers, withdrawal and weight as they
are, and its contexts but for a selection that makes one of them ACTIVE (R8, R55, R134, R140, R149). -/
def Obligations.OtherHostsUntouched : Prop :=
  ∀ (s t : State) (i : Instr) (g h : HostNo), CoreSound s → i.host = some g → h ≠ g → exec i s = .next t →
    t.port h = s.port h ∧ t.cq h = s.cq h ∧ t.wd h = s.wd h ∧ t.weight h = s.weight h ∧
    (∀ c, (s.ctx c).owner = some h →
      t.ctx c = s.ctx c ∨ (s.ctx c).state = .ready ∧ t.ctx c = { s.ctx c with state := .active }) ∧
    ∀ c, (s.ctx c).owner ≠ some h → (t.ctx c).owner ≠ some h

/-- Every step keeps the ring as the weights give it, the window records sound, and the queues at 8 records or fewer (R29, R55,
R57, R140). No step but RESET changes the range, the attributes, the ack limit or the share mask of a window whose reference count
is above 0, unless the window closes with its last reference, which empties the share mask (R41, R45). -/
def Obligations.TablesStaySound : Prop :=
  ∀ s t : State, step s = .next t →
    (s.ringSound → t.ringSound) ∧ (s.windowsSound → t.windowsSound) ∧ (s.queuesBounded → t.queuesBounded) ∧
    (s.windowsSound → s.pending.head? ≠ some .reset → ∀ w, 0 < (s.window w).refs →
      (t.window w).base = (s.window w).base ∧ (t.window w).limit = (s.window w).limit ∧
      (t.window w).width = (s.window w).width ∧ (t.window w).burstAllowed = (s.window w).burstAllowed ∧
      (t.window w).sideEffect = (s.window w).sideEffect ∧ (t.window w).ackLimit = (s.window w).ackLimit ∧
      (0 < (t.window w).refs → (t.window w).share = (s.window w).share))

/-- Every step keeps the ports sound (R150 to R155, R159 to R163). -/
def Obligations.PortsStaySound : Prop :=
  ∀ s t : State, s.portsSound → step s = .next t → t.portsSound

/-- Every step keeps the engine sound: service record, buffer of at most 16 bytes, beat in flight and bus lines fit together (R65,
R70, R91, R94, R95). That LOWN is asserted without a beat in flight only before a selection and before the first strobe of a
service, and never between two beats of one, is the model's reading (log 7, 29). -/
def Obligations.EngineStaysSound : Prop :=
  ∀ s t : State, CoreSound s → step s = .next t → EngineSound t.engine

/-- Every step keeps the contexts and the lists that name them fitting together: one owner, once on the right list, at most one
ACTIVE (R1, R7, R48, R65, R142). -/
def Obligations.ContextListsStaySound : Prop :=
  ∀ s t : State, CoreSound s → step s = .next t → TableSound t

/-- Every step keeps moved plus residual at the count of the run in every started context, and the service record true to its
context (R4, R67). -/
def Obligations.CountsStaySound : Prop :=
  ∀ s t : State, CoreSound s → step s = .next t → t.countsSound ∧ t.serviceMatches

/-- Every step keeps the reference counts equal to the uses of the windows, from a state whose window records are sound, and the
lines bound to exactly the started contexts that name them (R6, R29, R40, R121). -/
def Obligations.ReferencesAndLinesStaySound : Prop :=
  ∀ s t : State, CoreSound s → step s = .next t → (s.windowsSound → s.refsSound → t.refsSound) ∧ (s.linesSound → t.linesSound)

/-- Every step keeps the work-present indication true to the lists, and the request for the bus with it (R62, R92). -/
def Obligations.WorkPresentStaysSound : Prop :=
  ∀ s t : State, CoreSound s → s.linesSound → s.workSound → step s = .next t → t.workSound

/-- Every step keeps every started context and the service in flight inside their windows (R38, R41, R74). -/
def Obligations.FenceStaysSound : Prop :=
  ∀ s t : State, CoreSound s → s.refsSound → FenceSound s → step s = .next t → FenceSound t

/-- Every beat in flight lies inside the window of its side, which is not CLOSED: both bytes of a word, the byte of a byte beat
(R78). -/
def Obligations.BeatsInsideWindows : Prop :=
  ∀ (s : State) (v : Service) (b : Beat), Sound s → s.engine.service = some v → s.engine.beat = some b →
    (s.window (v.beatWindow b)).state ≠ .closed ∧ b.inside (s.window (v.beatWindow b))
end

