-- ==== Sys2Proof/Laws/State.lean ====
section
/-! SUPPORT. What each read sees after each write of the state: one lemma per accessor and update, so that no later proof
unfolds a record update. -/

namespace Sys2Proof.Machine

/-- Reading a vector after a write. -/
theorem Vector.get_after_set {α : Type} {n : Nat} (v : Vector α n) (i j : Fin n) (x : α) :
    (v.set i.val x)[j.val] = if j = i then x else v[j.val] := by
  rw [Vector.getElem_set]
  by_cases h : j = i
  · subst h; simp
  · have : i.val ≠ j.val := fun e => h (Fin.ext e.symm)
    simp [h, this]

/-! ## `setCtx` -/

theorem State.ctx_setCtx (s : State) (c : CtxNo) (x : Ctx) (d : CtxNo) :
    (s.setCtx c x).ctx d = if d = c then x else s.ctx d := Vector.get_after_set _ _ _ _

@[simp] theorem State.ctx_setCtx_self (s : State) (c : CtxNo) (x : Ctx) : (s.setCtx c x).ctx c = x := by
  rw [State.ctx_setCtx, if_pos rfl]

theorem State.ctx_setCtx_ne (s : State) (c : CtxNo) (x : Ctx) (d : CtxNo) (ne : d ≠ c) : (s.setCtx c x).ctx d = s.ctx d := by
  rw [State.ctx_setCtx, if_neg ne]

@[simp] theorem State.window_setCtx (s : State) (c : CtxNo) (x : Ctx) (v : WinNo) : (s.setCtx c x).window v = s.window v := rfl

@[simp] theorem State.line_setCtx (s : State) (c : CtxNo) (x : Ctx) (m : LineNo) : (s.setCtx c x).line m = s.line m := rfl

@[simp] theorem State.port_setCtx (s : State) (c : CtxNo) (x : Ctx) (g : HostNo) : (s.setCtx c x).port g = s.port g := rfl

@[simp] theorem State.cq_setCtx (s : State) (c : CtxNo) (x : Ctx) (g : HostNo) : (s.setCtx c x).cq g = s.cq g := rfl

@[simp] theorem State.wd_setCtx (s : State) (c : CtxNo) (x : Ctx) (g : HostNo) : (s.setCtx c x).wd g = s.wd g := rfl

@[simp] theorem State.readyList_setCtx (s : State) (c : CtxNo) (x : Ctx) (g : HostNo) :
    (s.setCtx c x).readyList g = s.readyList g := rfl

@[simp] theorem State.weight_setCtx (s : State) (c : CtxNo) (x : Ctx) (g : HostNo) : (s.setCtx c x).weight g = s.weight g := rfl

@[simp] theorem State.engine_setCtx (s : State) (c : CtxNo) (x : Ctx) : (s.setCtx c x).engine = s.engine := rfl

@[simp] theorem State.ring_setCtx (s : State) (c : CtxNo) (x : Ctx) : (s.setCtx c x).sched.ring = s.sched.ring := rfl

@[simp] theorem State.pointer_setCtx (s : State) (c : CtxNo) (x : Ctx) : (s.setCtx c x).sched.pointer = s.sched.pointer := rfl

@[simp] theorem State.mark_setCtx (s : State) (c : CtxNo) (x : Ctx) : (s.setCtx c x).sched.mark = s.sched.mark := rfl

@[simp] theorem State.work_setCtx (s : State) (c : CtxNo) (x : Ctx) : (s.setCtx c x).sched.work = s.sched.work := rfl

@[simp] theorem State.choices_setCtx (s : State) (c : CtxNo) (x : Ctx) : (s.setCtx c x).choices = s.choices := rfl

@[simp] theorem State.pending_setCtx (s : State) (c : CtxNo) (x : Ctx) : (s.setCtx c x).pending = s.pending := rfl

/-! ## `setWindow` -/

@[simp] theorem State.ctx_setWindow (s : State) (w : WinNo) (x : Window) (d : CtxNo) : (s.setWindow w x).ctx d = s.ctx d := rfl

theorem State.window_setWindow (s : State) (w : WinNo) (x : Window) (v : WinNo) :
    (s.setWindow w x).window v = if v = w then x else s.window v := Vector.get_after_set _ _ _ _

@[simp] theorem State.window_setWindow_self (s : State) (w : WinNo) (x : Window) : (s.setWindow w x).window w = x := by
  rw [State.window_setWindow, if_pos rfl]

theorem State.window_setWindow_ne (s : State) (w : WinNo) (x : Window) (v : WinNo) (ne : v ≠ w) :
    (s.setWindow w x).window v = s.window v := by
  rw [State.window_setWindow, if_neg ne]

@[simp] theorem State.line_setWindow (s : State) (w : WinNo) (x : Window) (m : LineNo) :
    (s.setWindow w x).line m = s.line m := rfl

@[simp] theorem State.port_setWindow (s : State) (w : WinNo) (x : Window) (g : HostNo) :
    (s.setWindow w x).port g = s.port g := rfl

@[simp] theorem State.cq_setWindow (s : State) (w : WinNo) (x : Window) (g : HostNo) : (s.setWindow w x).cq g = s.cq g := rfl

@[simp] theorem State.wd_setWindow (s : State) (w : WinNo) (x : Window) (g : HostNo) : (s.setWindow w x).wd g = s.wd g := rfl

@[simp] theorem State.readyList_setWindow (s : State) (w : WinNo) (x : Window) (g : HostNo) :
    (s.setWindow w x).readyList g = s.readyList g := rfl

@[simp] theorem State.weight_setWindow (s : State) (w : WinNo) (x : Window) (g : HostNo) :
    (s.setWindow w x).weight g = s.weight g := rfl

@[simp] theorem State.engine_setWindow (s : State) (w : WinNo) (x : Window) : (s.setWindow w x).engine = s.engine := rfl

@[simp] theorem State.ring_setWindow (s : State) (w : WinNo) (x : Window) : (s.setWindow w x).sched.ring = s.sched.ring := rfl

@[simp] theorem State.pointer_setWindow (s : State) (w : WinNo) (x : Window) :
    (s.setWindow w x).sched.pointer = s.sched.pointer := rfl

@[simp] theorem State.mark_setWindow (s : State) (w : WinNo) (x : Window) : (s.setWindow w x).sched.mark = s.sched.mark := rfl

@[simp] theorem State.work_setWindow (s : State) (w : WinNo) (x : Window) : (s.setWindow w x).sched.work = s.sched.work := rfl

@[simp] theorem State.choices_setWindow (s : State) (w : WinNo) (x : Window) : (s.setWindow w x).choices = s.choices := rfl

@[simp] theorem State.pending_setWindow (s : State) (w : WinNo) (x : Window) : (s.setWindow w x).pending = s.pending := rfl

/-! ## `setLine` -/

@[simp] theorem State.ctx_setLine (s : State) (n : LineNo) (x : Line) (d : CtxNo) : (s.setLine n x).ctx d = s.ctx d := rfl

@[simp] theorem State.window_setLine (s : State) (n : LineNo) (x : Line) (v : WinNo) :
    (s.setLine n x).window v = s.window v := rfl

theorem State.line_setLine (s : State) (n : LineNo) (x : Line) (m : LineNo) :
    (s.setLine n x).line m = if m = n then x else s.line m := Vector.get_after_set _ _ _ _

@[simp] theorem State.line_setLine_self (s : State) (n : LineNo) (x : Line) : (s.setLine n x).line n = x := by
  rw [State.line_setLine, if_pos rfl]

theorem State.line_setLine_ne (s : State) (n : LineNo) (x : Line) (m : LineNo) (ne : m ≠ n) :
    (s.setLine n x).line m = s.line m := by
  rw [State.line_setLine, if_neg ne]

@[simp] theorem State.port_setLine (s : State) (n : LineNo) (x : Line) (g : HostNo) : (s.setLine n x).port g = s.port g := rfl

@[simp] theorem State.cq_setLine (s : State) (n : LineNo) (x : Line) (g : HostNo) : (s.setLine n x).cq g = s.cq g := rfl

@[simp] theorem State.wd_setLine (s : State) (n : LineNo) (x : Line) (g : HostNo) : (s.setLine n x).wd g = s.wd g := rfl

@[simp] theorem State.readyList_setLine (s : State) (n : LineNo) (x : Line) (g : HostNo) :
    (s.setLine n x).readyList g = s.readyList g := rfl

@[simp] theorem State.weight_setLine (s : State) (n : LineNo) (x : Line) (g : HostNo) :
    (s.setLine n x).weight g = s.weight g := rfl

@[simp] theorem State.engine_setLine (s : State) (n : LineNo) (x : Line) : (s.setLine n x).engine = s.engine := rfl

@[simp] theorem State.ring_setLine (s : State) (n : LineNo) (x : Line) : (s.setLine n x).sched.ring = s.sched.ring := rfl

@[simp] theorem State.pointer_setLine (s : State) (n : LineNo) (x : Line) :
    (s.setLine n x).sched.pointer = s.sched.pointer := rfl

@[simp] theorem State.mark_setLine (s : State) (n : LineNo) (x : Line) : (s.setLine n x).sched.mark = s.sched.mark := rfl

@[simp] theorem State.work_setLine (s : State) (n : LineNo) (x : Line) : (s.setLine n x).sched.work = s.sched.work := rfl

@[simp] theorem State.choices_setLine (s : State) (n : LineNo) (x : Line) : (s.setLine n x).choices = s.choices := rfl

@[simp] theorem State.pending_setLine (s : State) (n : LineNo) (x : Line) : (s.setLine n x).pending = s.pending := rfl

/-! ## `setPort` -/

@[simp] theorem State.ctx_setPort (s : State) (h : HostNo) (x : Port) (d : CtxNo) : (s.setPort h x).ctx d = s.ctx d := rfl

@[simp] theorem State.window_setPort (s : State) (h : HostNo) (x : Port) (v : WinNo) :
    (s.setPort h x).window v = s.window v := rfl

@[simp] theorem State.line_setPort (s : State) (h : HostNo) (x : Port) (m : LineNo) : (s.setPort h x).line m = s.line m := rfl

theorem State.port_setPort (s : State) (h : HostNo) (x : Port) (g : HostNo) :
    (s.setPort h x).port g = if g = h then x else s.port g := Vector.get_after_set _ _ _ _

@[simp] theorem State.port_setPort_self (s : State) (h : HostNo) (x : Port) : (s.setPort h x).port h = x := by
  rw [State.port_setPort, if_pos rfl]

theorem State.port_setPort_ne (s : State) (h : HostNo) (x : Port) (g : HostNo) (ne : g ≠ h) :
    (s.setPort h x).port g = s.port g := by
  rw [State.port_setPort, if_neg ne]

@[simp] theorem State.cq_setPort (s : State) (h : HostNo) (x : Port) (g : HostNo) : (s.setPort h x).cq g = s.cq g := rfl

@[simp] theorem State.wd_setPort (s : State) (h : HostNo) (x : Port) (g : HostNo) : (s.setPort h x).wd g = s.wd g := rfl

@[simp] theorem State.readyList_setPort (s : State) (h : HostNo) (x : Port) (g : HostNo) :
    (s.setPort h x).readyList g = s.readyList g := rfl

@[simp] theorem State.weight_setPort (s : State) (h : HostNo) (x : Port) (g : HostNo) :
    (s.setPort h x).weight g = s.weight g := rfl

@[simp] theorem State.engine_setPort (s : State) (h : HostNo) (x : Port) : (s.setPort h x).engine = s.engine := rfl

@[simp] theorem State.ring_setPort (s : State) (h : HostNo) (x : Port) : (s.setPort h x).sched.ring = s.sched.ring := rfl

@[simp] theorem State.pointer_setPort (s : State) (h : HostNo) (x : Port) :
    (s.setPort h x).sched.pointer = s.sched.pointer := rfl

@[simp] theorem State.mark_setPort (s : State) (h : HostNo) (x : Port) : (s.setPort h x).sched.mark = s.sched.mark := rfl

@[simp] theorem State.work_setPort (s : State) (h : HostNo) (x : Port) : (s.setPort h x).sched.work = s.sched.work := rfl

@[simp] theorem State.choices_setPort (s : State) (h : HostNo) (x : Port) : (s.setPort h x).choices = s.choices := rfl

@[simp] theorem State.pending_setPort (s : State) (h : HostNo) (x : Port) : (s.setPort h x).pending = s.pending := rfl

/-! ## `setCq` -/

@[simp] theorem State.ctx_setCq (s : State) (h : HostNo) (x : Cq) (d : CtxNo) : (s.setCq h x).ctx d = s.ctx d := rfl

@[simp] theorem State.window_setCq (s : State) (h : HostNo) (x : Cq) (v : WinNo) : (s.setCq h x).window v = s.window v := rfl

@[simp] theorem State.line_setCq (s : State) (h : HostNo) (x : Cq) (m : LineNo) : (s.setCq h x).line m = s.line m := rfl

@[simp] theorem State.port_setCq (s : State) (h : HostNo) (x : Cq) (g : HostNo) : (s.setCq h x).port g = s.port g := rfl

theorem State.cq_setCq (s : State) (h : HostNo) (x : Cq) (g : HostNo) :
    (s.setCq h x).cq g = if g = h then x else s.cq g := Vector.get_after_set _ _ _ _

@[simp] theorem State.cq_setCq_self (s : State) (h : HostNo) (x : Cq) : (s.setCq h x).cq h = x := by
  rw [State.cq_setCq, if_pos rfl]

theorem State.cq_setCq_ne (s : State) (h : HostNo) (x : Cq) (g : HostNo) (ne : g ≠ h) : (s.setCq h x).cq g = s.cq g := by
  rw [State.cq_setCq, if_neg ne]

@[simp] theorem State.wd_setCq (s : State) (h : HostNo) (x : Cq) (g : HostNo) : (s.setCq h x).wd g = s.wd g := rfl

@[simp] theorem State.readyList_setCq (s : State) (h : HostNo) (x : Cq) (g : HostNo) :
    (s.setCq h x).readyList g = s.readyList g := rfl

@[simp] theorem State.weight_setCq (s : State) (h : HostNo) (x : Cq) (g : HostNo) : (s.setCq h x).weight g = s.weight g := rfl

@[simp] theorem State.engine_setCq (s : State) (h : HostNo) (x : Cq) : (s.setCq h x).engine = s.engine := rfl

@[simp] theorem State.ring_setCq (s : State) (h : HostNo) (x : Cq) : (s.setCq h x).sched.ring = s.sched.ring := rfl

@[simp] theorem State.pointer_setCq (s : State) (h : HostNo) (x : Cq) : (s.setCq h x).sched.pointer = s.sched.pointer := rfl

@[simp] theorem State.mark_setCq (s : State) (h : HostNo) (x : Cq) : (s.setCq h x).sched.mark = s.sched.mark := rfl

@[simp] theorem State.work_setCq (s : State) (h : HostNo) (x : Cq) : (s.setCq h x).sched.work = s.sched.work := rfl

@[simp] theorem State.choices_setCq (s : State) (h : HostNo) (x : Cq) : (s.setCq h x).choices = s.choices := rfl

@[simp] theorem State.pending_setCq (s : State) (h : HostNo) (x : Cq) : (s.setCq h x).pending = s.pending := rfl

/-! ## `setWd` -/

@[simp] theorem State.ctx_setWd (s : State) (h : HostNo) (x : Option Withdrawal) (d : CtxNo) :
    (s.setWd h x).ctx d = s.ctx d := rfl

@[simp] theorem State.window_setWd (s : State) (h : HostNo) (x : Option Withdrawal) (v : WinNo) :
    (s.setWd h x).window v = s.window v := rfl

@[simp] theorem State.line_setWd (s : State) (h : HostNo) (x : Option Withdrawal) (m : LineNo) :
    (s.setWd h x).line m = s.line m := rfl

@[simp] theorem State.port_setWd (s : State) (h : HostNo) (x : Option Withdrawal) (g : HostNo) :
    (s.setWd h x).port g = s.port g := rfl

@[simp] theorem State.cq_setWd (s : State) (h : HostNo) (x : Option Withdrawal) (g : HostNo) :
    (s.setWd h x).cq g = s.cq g := rfl

theorem State.wd_setWd (s : State) (h : HostNo) (x : Option Withdrawal) (g : HostNo) :
    (s.setWd h x).wd g = if g = h then x else s.wd g := Vector.get_after_set _ _ _ _

@[simp] theorem State.wd_setWd_self (s : State) (h : HostNo) (x : Option Withdrawal) : (s.setWd h x).wd h = x := by
  rw [State.wd_setWd, if_pos rfl]

theorem State.wd_setWd_ne (s : State) (h : HostNo) (x : Option Withdrawal) (g : HostNo) (ne : g ≠ h) :
    (s.setWd h x).wd g = s.wd g := by
  rw [State.wd_setWd, if_neg ne]

@[simp] theorem State.readyList_setWd (s : State) (h : HostNo) (x : Option Withdrawal) (g : HostNo) :
    (s.setWd h x).readyList g = s.readyList g := rfl

@[simp] theorem State.weight_setWd (s : State) (h : HostNo) (x : Option Withdrawal) (g : HostNo) :
    (s.setWd h x).weight g = s.weight g := rfl

@[simp] theorem State.engine_setWd (s : State) (h : HostNo) (x : Option Withdrawal) : (s.setWd h x).engine = s.engine := rfl

@[simp] theorem State.ring_setWd (s : State) (h : HostNo) (x : Option Withdrawal) :
    (s.setWd h x).sched.ring = s.sched.ring := rfl

@[simp] theorem State.pointer_setWd (s : State) (h : HostNo) (x : Option Withdrawal) :
    (s.setWd h x).sched.pointer = s.sched.pointer := rfl

@[simp] theorem State.mark_setWd (s : State) (h : HostNo) (x : Option Withdrawal) :
    (s.setWd h x).sched.mark = s.sched.mark := rfl

@[simp] theorem State.work_setWd (s : State) (h : HostNo) (x : Option Withdrawal) :
    (s.setWd h x).sched.work = s.sched.work := rfl

@[simp] theorem State.choices_setWd (s : State) (h : HostNo) (x : Option Withdrawal) : (s.setWd h x).choices = s.choices := rfl

@[simp] theorem State.pending_setWd (s : State) (h : HostNo) (x : Option Withdrawal) : (s.setWd h x).pending = s.pending := rfl

/-! ## `setReady` -/

@[simp] theorem State.ctx_setReady (s : State) (h : HostNo) (l : List CtxNo) (d : CtxNo) :
    (s.setReady h l).ctx d = s.ctx d := rfl

@[simp] theorem State.window_setReady (s : State) (h : HostNo) (l : List CtxNo) (v : WinNo) :
    (s.setReady h l).window v = s.window v := rfl

@[simp] theorem State.line_setReady (s : State) (h : HostNo) (l : List CtxNo) (m : LineNo) :
    (s.setReady h l).line m = s.line m := rfl

@[simp] theorem State.port_setReady (s : State) (h : HostNo) (l : List CtxNo) (g : HostNo) :
    (s.setReady h l).port g = s.port g := rfl

@[simp] theorem State.cq_setReady (s : State) (h : HostNo) (l : List CtxNo) (g : HostNo) : (s.setReady h l).cq g = s.cq g := rfl

@[simp] theorem State.wd_setReady (s : State) (h : HostNo) (l : List CtxNo) (g : HostNo) : (s.setReady h l).wd g = s.wd g := rfl

theorem State.readyList_setReady (s : State) (h : HostNo) (l : List CtxNo) (g : HostNo) :
    (s.setReady h l).readyList g = if g = h then l else s.readyList g := Vector.get_after_set _ _ _ _

@[simp] theorem State.readyList_setReady_self (s : State) (h : HostNo) (l : List CtxNo) : (s.setReady h l).readyList h = l := by
  rw [State.readyList_setReady, if_pos rfl]

theorem State.readyList_setReady_ne (s : State) (h : HostNo) (l : List CtxNo) (g : HostNo) (ne : g ≠ h) :
    (s.setReady h l).readyList g = s.readyList g := by
  rw [State.readyList_setReady, if_neg ne]

@[simp] theorem State.weight_setReady (s : State) (h : HostNo) (l : List CtxNo) (g : HostNo) :
    (s.setReady h l).weight g = s.weight g := rfl

@[simp] theorem State.engine_setReady (s : State) (h : HostNo) (l : List CtxNo) : (s.setReady h l).engine = s.engine := rfl

@[simp] theorem State.ring_setReady (s : State) (h : HostNo) (l : List CtxNo) :
    (s.setReady h l).sched.ring = s.sched.ring := rfl

@[simp] theorem State.pointer_setReady (s : State) (h : HostNo) (l : List CtxNo) :
    (s.setReady h l).sched.pointer = s.sched.pointer := rfl

@[simp] theorem State.mark_setReady (s : State) (h : HostNo) (l : List CtxNo) :
    (s.setReady h l).sched.mark = s.sched.mark := rfl

@[simp] theorem State.work_setReady (s : State) (h : HostNo) (l : List CtxNo) :
    (s.setReady h l).sched.work = s.sched.work := rfl

@[simp] theorem State.choices_setReady (s : State) (h : HostNo) (l : List CtxNo) : (s.setReady h l).choices = s.choices := rfl

@[simp] theorem State.pending_setReady (s : State) (h : HostNo) (l : List CtxNo) : (s.setReady h l).pending = s.pending := rfl

/-! ## `setWeight` -/

@[simp] theorem State.ctx_setWeight (s : State) (h : HostNo) (n : Nat) (d : CtxNo) : (s.setWeight h n).ctx d = s.ctx d := rfl

@[simp] theorem State.window_setWeight (s : State) (h : HostNo) (n : Nat) (v : WinNo) :
    (s.setWeight h n).window v = s.window v := rfl

@[simp] theorem State.line_setWeight (s : State) (h : HostNo) (n : Nat) (m : LineNo) :
    (s.setWeight h n).line m = s.line m := rfl

@[simp] theorem State.port_setWeight (s : State) (h : HostNo) (n : Nat) (g : HostNo) :
    (s.setWeight h n).port g = s.port g := rfl

@[simp] theorem State.cq_setWeight (s : State) (h : HostNo) (n : Nat) (g : HostNo) : (s.setWeight h n).cq g = s.cq g := rfl

@[simp] theorem State.wd_setWeight (s : State) (h : HostNo) (n : Nat) (g : HostNo) : (s.setWeight h n).wd g = s.wd g := rfl

@[simp] theorem State.readyList_setWeight (s : State) (h : HostNo) (n : Nat) (g : HostNo) :
    (s.setWeight h n).readyList g = s.readyList g := rfl

theorem State.weight_setWeight (s : State) (h : HostNo) (n : Nat) (g : HostNo) :
    (s.setWeight h n).weight g = if g = h then n else s.weight g := Vector.get_after_set _ _ _ _

@[simp] theorem State.weight_setWeight_self (s : State) (h : HostNo) (n : Nat) : (s.setWeight h n).weight h = n := by
  rw [State.weight_setWeight, if_pos rfl]

theorem State.weight_setWeight_ne (s : State) (h : HostNo) (n : Nat) (g : HostNo) (ne : g ≠ h) :
    (s.setWeight h n).weight g = s.weight g := by
  rw [State.weight_setWeight, if_neg ne]

@[simp] theorem State.engine_setWeight (s : State) (h : HostNo) (n : Nat) : (s.setWeight h n).engine = s.engine := rfl

@[simp] theorem State.ring_setWeight (s : State) (h : HostNo) (n : Nat) : (s.setWeight h n).sched.ring = s.sched.ring := rfl

@[simp] theorem State.pointer_setWeight (s : State) (h : HostNo) (n : Nat) :
    (s.setWeight h n).sched.pointer = s.sched.pointer := rfl

@[simp] theorem State.mark_setWeight (s : State) (h : HostNo) (n : Nat) : (s.setWeight h n).sched.mark = s.sched.mark := rfl

@[simp] theorem State.work_setWeight (s : State) (h : HostNo) (n : Nat) : (s.setWeight h n).sched.work = s.sched.work := rfl

@[simp] theorem State.choices_setWeight (s : State) (h : HostNo) (n : Nat) : (s.setWeight h n).choices = s.choices := rfl

@[simp] theorem State.pending_setWeight (s : State) (h : HostNo) (n : Nat) : (s.setWeight h n).pending = s.pending := rfl

/-! ## `setMark` -/

@[simp] theorem State.ctx_setMark (s : State) (k : Option Nat) (d : CtxNo) : (s.setMark k).ctx d = s.ctx d := rfl

@[simp] theorem State.window_setMark (s : State) (k : Option Nat) (v : WinNo) : (s.setMark k).window v = s.window v := rfl

@[simp] theorem State.line_setMark (s : State) (k : Option Nat) (m : LineNo) : (s.setMark k).line m = s.line m := rfl

@[simp] theorem State.port_setMark (s : State) (k : Option Nat) (g : HostNo) : (s.setMark k).port g = s.port g := rfl

@[simp] theorem State.cq_setMark (s : State) (k : Option Nat) (g : HostNo) : (s.setMark k).cq g = s.cq g := rfl

@[simp] theorem State.wd_setMark (s : State) (k : Option Nat) (g : HostNo) : (s.setMark k).wd g = s.wd g := rfl

@[simp] theorem State.readyList_setMark (s : State) (k : Option Nat) (g : HostNo) :
    (s.setMark k).readyList g = s.readyList g := rfl

@[simp] theorem State.weight_setMark (s : State) (k : Option Nat) (g : HostNo) : (s.setMark k).weight g = s.weight g := rfl

@[simp] theorem State.engine_setMark (s : State) (k : Option Nat) : (s.setMark k).engine = s.engine := rfl

@[simp] theorem State.ring_setMark (s : State) (k : Option Nat) : (s.setMark k).sched.ring = s.sched.ring := rfl

@[simp] theorem State.pointer_setMark (s : State) (k : Option Nat) : (s.setMark k).sched.pointer = s.sched.pointer := rfl

@[simp] theorem State.mark_setMark (s : State) (k : Option Nat) : (s.setMark k).sched.mark = k := rfl

@[simp] theorem State.work_setMark (s : State) (k : Option Nat) : (s.setMark k).sched.work = s.sched.work := rfl

@[simp] theorem State.choices_setMark (s : State) (k : Option Nat) : (s.setMark k).choices = s.choices := rfl

@[simp] theorem State.pending_setMark (s : State) (k : Option Nat) : (s.setMark k).pending = s.pending := rfl

/-! ## `setWork` -/

@[simp] theorem State.ctx_setWork (s : State) (b : Bool) (d : CtxNo) : (s.setWork b).ctx d = s.ctx d := rfl

@[simp] theorem State.window_setWork (s : State) (b : Bool) (v : WinNo) : (s.setWork b).window v = s.window v := rfl

@[simp] theorem State.line_setWork (s : State) (b : Bool) (m : LineNo) : (s.setWork b).line m = s.line m := rfl

@[simp] theorem State.port_setWork (s : State) (b : Bool) (g : HostNo) : (s.setWork b).port g = s.port g := rfl

@[simp] theorem State.cq_setWork (s : State) (b : Bool) (g : HostNo) : (s.setWork b).cq g = s.cq g := rfl

@[simp] theorem State.wd_setWork (s : State) (b : Bool) (g : HostNo) : (s.setWork b).wd g = s.wd g := rfl

@[simp] theorem State.readyList_setWork (s : State) (b : Bool) (g : HostNo) : (s.setWork b).readyList g = s.readyList g := rfl

@[simp] theorem State.weight_setWork (s : State) (b : Bool) (g : HostNo) : (s.setWork b).weight g = s.weight g := rfl

@[simp] theorem State.engine_setWork (s : State) (b : Bool) : (s.setWork b).engine = s.engine := rfl

@[simp] theorem State.ring_setWork (s : State) (b : Bool) : (s.setWork b).sched.ring = s.sched.ring := rfl

@[simp] theorem State.pointer_setWork (s : State) (b : Bool) : (s.setWork b).sched.pointer = s.sched.pointer := rfl

@[simp] theorem State.mark_setWork (s : State) (b : Bool) : (s.setWork b).sched.mark = s.sched.mark := rfl

@[simp] theorem State.work_setWork (s : State) (b : Bool) : (s.setWork b).sched.work = b := rfl

@[simp] theorem State.choices_setWork (s : State) (b : Bool) : (s.setWork b).choices = s.choices := rfl

@[simp] theorem State.pending_setWork (s : State) (b : Bool) : (s.setWork b).pending = s.pending := rfl

/-! ## `setEngine` -/

@[simp] theorem State.ctx_setEngine (s : State) (e : Engine) (d : CtxNo) : (s.setEngine e).ctx d = s.ctx d := rfl

@[simp] theorem State.window_setEngine (s : State) (e : Engine) (v : WinNo) : (s.setEngine e).window v = s.window v := rfl

@[simp] theorem State.line_setEngine (s : State) (e : Engine) (m : LineNo) : (s.setEngine e).line m = s.line m := rfl

@[simp] theorem State.port_setEngine (s : State) (e : Engine) (g : HostNo) : (s.setEngine e).port g = s.port g := rfl

@[simp] theorem State.cq_setEngine (s : State) (e : Engine) (g : HostNo) : (s.setEngine e).cq g = s.cq g := rfl

@[simp] theorem State.wd_setEngine (s : State) (e : Engine) (g : HostNo) : (s.setEngine e).wd g = s.wd g := rfl

@[simp] theorem State.readyList_setEngine (s : State) (e : Engine) (g : HostNo) :
    (s.setEngine e).readyList g = s.readyList g := rfl

@[simp] theorem State.weight_setEngine (s : State) (e : Engine) (g : HostNo) : (s.setEngine e).weight g = s.weight g := rfl

@[simp] theorem State.engine_setEngine (s : State) (e : Engine) : (s.setEngine e).engine = e := rfl

@[simp] theorem State.ring_setEngine (s : State) (e : Engine) : (s.setEngine e).sched.ring = s.sched.ring := rfl

@[simp] theorem State.pointer_setEngine (s : State) (e : Engine) : (s.setEngine e).sched.pointer = s.sched.pointer := rfl

@[simp] theorem State.mark_setEngine (s : State) (e : Engine) : (s.setEngine e).sched.mark = s.sched.mark := rfl

@[simp] theorem State.work_setEngine (s : State) (e : Engine) : (s.setEngine e).sched.work = s.sched.work := rfl

@[simp] theorem State.choices_setEngine (s : State) (e : Engine) : (s.setEngine e).choices = s.choices := rfl

@[simp] theorem State.pending_setEngine (s : State) (e : Engine) : (s.setEngine e).pending = s.pending := rfl

@[simp] theorem State.ctx_setRing (s : State) (r : List HostNo) (p : Nat) (d : CtxNo) : (s.setRing r p).ctx d = s.ctx d := rfl

@[simp] theorem State.window_setRing (s : State) (r : List HostNo) (p : Nat) (v : WinNo) :
    (s.setRing r p).window v = s.window v := rfl

@[simp] theorem State.line_setRing (s : State) (r : List HostNo) (p : Nat) (m : LineNo) :
    (s.setRing r p).line m = s.line m := rfl

@[simp] theorem State.port_setRing (s : State) (r : List HostNo) (p : Nat) (g : HostNo) :
    (s.setRing r p).port g = s.port g := rfl

@[simp] theorem State.cq_setRing (s : State) (r : List HostNo) (p : Nat) (g : HostNo) : (s.setRing r p).cq g = s.cq g := rfl

@[simp] theorem State.wd_setRing (s : State) (r : List HostNo) (p : Nat) (g : HostNo) : (s.setRing r p).wd g = s.wd g := rfl

@[simp] theorem State.readyList_setRing (s : State) (r : List HostNo) (p : Nat) (g : HostNo) :
    (s.setRing r p).readyList g = s.readyList g := rfl

@[simp] theorem State.weight_setRing (s : State) (r : List HostNo) (p : Nat) (g : HostNo) :
    (s.setRing r p).weight g = s.weight g := rfl

@[simp] theorem State.engine_setRing (s : State) (r : List HostNo) (p : Nat) : (s.setRing r p).engine = s.engine := rfl

@[simp] theorem State.mark_setRing (s : State) (r : List HostNo) (p : Nat) : (s.setRing r p).sched.mark = s.sched.mark := rfl

@[simp] theorem State.work_setRing (s : State) (r : List HostNo) (p : Nat) : (s.setRing r p).sched.work = s.sched.work := rfl

@[simp] theorem State.choices_setRing (s : State) (r : List HostNo) (p : Nat) : (s.setRing r p).choices = s.choices := rfl

@[simp] theorem State.pending_setRing (s : State) (r : List HostNo) (p : Nat) : (s.setRing r p).pending = s.pending := rfl

@[simp] theorem State.ring_setRing (s : State) (r : List HostNo) (p : Nat) : (s.setRing r p).sched.ring = r := rfl

@[simp] theorem State.pointer_setRing (s : State) (r : List HostNo) (p : Nat) : (s.setRing r p).sched.pointer = p := rfl

@[simp] theorem State.ctx_countChoice (s : State) (d : CtxNo) : s.countChoice.ctx d = s.ctx d := rfl

@[simp] theorem State.window_countChoice (s : State) (v : WinNo) : s.countChoice.window v = s.window v := rfl

@[simp] theorem State.line_countChoice (s : State) (m : LineNo) : s.countChoice.line m = s.line m := rfl

@[simp] theorem State.port_countChoice (s : State) (g : HostNo) : s.countChoice.port g = s.port g := rfl

@[simp] theorem State.cq_countChoice (s : State) (g : HostNo) : s.countChoice.cq g = s.cq g := rfl

@[simp] theorem State.wd_countChoice (s : State) (g : HostNo) : s.countChoice.wd g = s.wd g := rfl

@[simp] theorem State.readyList_countChoice (s : State) (g : HostNo) : s.countChoice.readyList g = s.readyList g := rfl

@[simp] theorem State.weight_countChoice (s : State) (g : HostNo) : s.countChoice.weight g = s.weight g := rfl

@[simp] theorem State.engine_countChoice (s : State) : s.countChoice.engine = s.engine := rfl

@[simp] theorem State.ring_countChoice (s : State) : s.countChoice.sched.ring = s.sched.ring := rfl

@[simp] theorem State.pointer_countChoice (s : State) : s.countChoice.sched.pointer = s.sched.pointer := rfl

@[simp] theorem State.mark_countChoice (s : State) : s.countChoice.sched.mark = s.sched.mark := rfl

@[simp] theorem State.work_countChoice (s : State) : s.countChoice.sched.work = s.sched.work := rfl

@[simp] theorem State.pending_countChoice (s : State) : s.countChoice.pending = s.pending := rfl

@[simp] theorem State.choices_countChoice (s : State) : s.countChoice.choices = s.choices + 1 := rfl

end Sys2Proof.Machine
end

