-- ==== Sys2Proof/Laws/Frames.lean ====
section
/-! SUPPORT. What each shared operation of Machine/Ops.lean leaves alone: one lemma per operation and accessor it does not
write, so that a proof about a command never unfolds an operation to see past it. -/

namespace Sys2Proof.Machine

/-- A fold of steps that keep a reading keeps it. -/
theorem foldl_keeps {α β : Type} (f : State → α → State) (r : State → β) (keeps : ∀ t a, r (f t a) = r t) :
    ∀ (l : List α) (s : State), r (l.foldl f s) = r s
  | [], _ => rfl
  | a :: l, s => (foldl_keeps f r keeps l (f s a)).trans (keeps s a)

/-! ## `releaseRef` -/

@[simp] theorem State.ctx_releaseRef (s : State) (w : WinNo) (d : CtxNo) :
    (s.releaseRef w).ctx d = s.ctx d := rfl

@[simp] theorem State.line_releaseRef (s : State) (w : WinNo) (m : LineNo) :
    (s.releaseRef w).line m = s.line m := rfl

@[simp] theorem State.port_releaseRef (s : State) (w : WinNo) (g : HostNo) :
    (s.releaseRef w).port g = s.port g := rfl

@[simp] theorem State.cq_releaseRef (s : State) (w : WinNo) (g : HostNo) :
    (s.releaseRef w).cq g = s.cq g := rfl

@[simp] theorem State.wd_releaseRef (s : State) (w : WinNo) (g : HostNo) :
    (s.releaseRef w).wd g = s.wd g := rfl

@[simp] theorem State.readyList_releaseRef (s : State) (w : WinNo) (g : HostNo) :
    (s.releaseRef w).readyList g = s.readyList g := rfl

@[simp] theorem State.weight_releaseRef (s : State) (w : WinNo) (g : HostNo) :
    (s.releaseRef w).weight g = s.weight g := rfl

@[simp] theorem State.engine_releaseRef (s : State) (w : WinNo) :
    (s.releaseRef w).engine = s.engine := rfl

@[simp] theorem State.ring_releaseRef (s : State) (w : WinNo) :
    (s.releaseRef w).sched.ring = s.sched.ring := rfl

@[simp] theorem State.pointer_releaseRef (s : State) (w : WinNo) :
    (s.releaseRef w).sched.pointer = s.sched.pointer := rfl

@[simp] theorem State.mark_releaseRef (s : State) (w : WinNo) :
    (s.releaseRef w).sched.mark = s.sched.mark := rfl

@[simp] theorem State.work_releaseRef (s : State) (w : WinNo) :
    (s.releaseRef w).sched.work = s.sched.work := rfl

@[simp] theorem State.choices_releaseRef (s : State) (w : WinNo) :
    (s.releaseRef w).choices = s.choices := rfl

@[simp] theorem State.pending_releaseRef (s : State) (w : WinNo) :
    (s.releaseRef w).pending = s.pending := rfl

/-! ## `addRef` -/

@[simp] theorem State.ctx_addRef (s : State) (w : WinNo) (d : CtxNo) :
    (s.addRef w).ctx d = s.ctx d := rfl

@[simp] theorem State.line_addRef (s : State) (w : WinNo) (m : LineNo) :
    (s.addRef w).line m = s.line m := rfl

@[simp] theorem State.port_addRef (s : State) (w : WinNo) (g : HostNo) :
    (s.addRef w).port g = s.port g := rfl

@[simp] theorem State.cq_addRef (s : State) (w : WinNo) (g : HostNo) :
    (s.addRef w).cq g = s.cq g := rfl

@[simp] theorem State.wd_addRef (s : State) (w : WinNo) (g : HostNo) :
    (s.addRef w).wd g = s.wd g := rfl

@[simp] theorem State.readyList_addRef (s : State) (w : WinNo) (g : HostNo) :
    (s.addRef w).readyList g = s.readyList g := rfl

@[simp] theorem State.weight_addRef (s : State) (w : WinNo) (g : HostNo) :
    (s.addRef w).weight g = s.weight g := rfl

@[simp] theorem State.engine_addRef (s : State) (w : WinNo) :
    (s.addRef w).engine = s.engine := rfl

@[simp] theorem State.ring_addRef (s : State) (w : WinNo) :
    (s.addRef w).sched.ring = s.sched.ring := rfl

@[simp] theorem State.pointer_addRef (s : State) (w : WinNo) :
    (s.addRef w).sched.pointer = s.sched.pointer := rfl

@[simp] theorem State.mark_addRef (s : State) (w : WinNo) :
    (s.addRef w).sched.mark = s.sched.mark := rfl

@[simp] theorem State.work_addRef (s : State) (w : WinNo) :
    (s.addRef w).sched.work = s.sched.work := rfl

@[simp] theorem State.choices_addRef (s : State) (w : WinNo) :
    (s.addRef w).choices = s.choices := rfl

@[simp] theorem State.pending_addRef (s : State) (w : WinNo) :
    (s.addRef w).pending = s.pending := rfl

/-! ## `bindLine` -/

@[simp] theorem State.ctx_bindLine (s : State) (c : CtxNo) (d : CtxNo) :
    (s.bindLine c).ctx d = s.ctx d := by
  unfold State.bindLine; split <;> rfl

@[simp] theorem State.window_bindLine (s : State) (c : CtxNo) (u : WinNo) :
    (s.bindLine c).window u = s.window u := by
  unfold State.bindLine; split <;> rfl

@[simp] theorem State.port_bindLine (s : State) (c : CtxNo) (g : HostNo) :
    (s.bindLine c).port g = s.port g := by
  unfold State.bindLine; split <;> rfl

@[simp] theorem State.cq_bindLine (s : State) (c : CtxNo) (g : HostNo) :
    (s.bindLine c).cq g = s.cq g := by
  unfold State.bindLine; split <;> rfl

@[simp] theorem State.wd_bindLine (s : State) (c : CtxNo) (g : HostNo) :
    (s.bindLine c).wd g = s.wd g := by
  unfold State.bindLine; split <;> rfl

@[simp] theorem State.readyList_bindLine (s : State) (c : CtxNo) (g : HostNo) :
    (s.bindLine c).readyList g = s.readyList g := by
  unfold State.bindLine; split <;> rfl

@[simp] theorem State.weight_bindLine (s : State) (c : CtxNo) (g : HostNo) :
    (s.bindLine c).weight g = s.weight g := by
  unfold State.bindLine; split <;> rfl

@[simp] theorem State.engine_bindLine (s : State) (c : CtxNo) :
    (s.bindLine c).engine = s.engine := by
  unfold State.bindLine; split <;> rfl

@[simp] theorem State.ring_bindLine (s : State) (c : CtxNo) :
    (s.bindLine c).sched.ring = s.sched.ring := by
  unfold State.bindLine; split <;> rfl

@[simp] theorem State.pointer_bindLine (s : State) (c : CtxNo) :
    (s.bindLine c).sched.pointer = s.sched.pointer := by
  unfold State.bindLine; split <;> rfl

@[simp] theorem State.mark_bindLine (s : State) (c : CtxNo) :
    (s.bindLine c).sched.mark = s.sched.mark := by
  unfold State.bindLine; split <;> rfl

@[simp] theorem State.work_bindLine (s : State) (c : CtxNo) :
    (s.bindLine c).sched.work = s.sched.work := by
  unfold State.bindLine; split <;> rfl

@[simp] theorem State.choices_bindLine (s : State) (c : CtxNo) :
    (s.bindLine c).choices = s.choices := by
  unfold State.bindLine; split <;> rfl

@[simp] theorem State.pending_bindLine (s : State) (c : CtxNo) :
    (s.bindLine c).pending = s.pending := by
  unfold State.bindLine; split <;> rfl

/-! ## `unbindLine` -/

@[simp] theorem State.ctx_unbindLine (s : State) (c : CtxNo) (d : CtxNo) :
    (s.unbindLine c).ctx d = s.ctx d := by
  unfold State.unbindLine; (repeat' split) <;> rfl

@[simp] theorem State.window_unbindLine (s : State) (c : CtxNo) (u : WinNo) :
    (s.unbindLine c).window u = s.window u := by
  unfold State.unbindLine; (repeat' split) <;> rfl

@[simp] theorem State.port_unbindLine (s : State) (c : CtxNo) (g : HostNo) :
    (s.unbindLine c).port g = s.port g := by
  unfold State.unbindLine; (repeat' split) <;> rfl

@[simp] theorem State.cq_unbindLine (s : State) (c : CtxNo) (g : HostNo) :
    (s.unbindLine c).cq g = s.cq g := by
  unfold State.unbindLine; (repeat' split) <;> rfl

@[simp] theorem State.wd_unbindLine (s : State) (c : CtxNo) (g : HostNo) :
    (s.unbindLine c).wd g = s.wd g := by
  unfold State.unbindLine; (repeat' split) <;> rfl

@[simp] theorem State.readyList_unbindLine (s : State) (c : CtxNo) (g : HostNo) :
    (s.unbindLine c).readyList g = s.readyList g := by
  unfold State.unbindLine; (repeat' split) <;> rfl

@[simp] theorem State.weight_unbindLine (s : State) (c : CtxNo) (g : HostNo) :
    (s.unbindLine c).weight g = s.weight g := by
  unfold State.unbindLine; (repeat' split) <;> rfl

@[simp] theorem State.engine_unbindLine (s : State) (c : CtxNo) :
    (s.unbindLine c).engine = s.engine := by
  unfold State.unbindLine; (repeat' split) <;> rfl

@[simp] theorem State.ring_unbindLine (s : State) (c : CtxNo) :
    (s.unbindLine c).sched.ring = s.sched.ring := by
  unfold State.unbindLine; (repeat' split) <;> rfl

@[simp] theorem State.pointer_unbindLine (s : State) (c : CtxNo) :
    (s.unbindLine c).sched.pointer = s.sched.pointer := by
  unfold State.unbindLine; (repeat' split) <;> rfl

@[simp] theorem State.mark_unbindLine (s : State) (c : CtxNo) :
    (s.unbindLine c).sched.mark = s.sched.mark := by
  unfold State.unbindLine; (repeat' split) <;> rfl

@[simp] theorem State.work_unbindLine (s : State) (c : CtxNo) :
    (s.unbindLine c).sched.work = s.sched.work := by
  unfold State.unbindLine; (repeat' split) <;> rfl

@[simp] theorem State.choices_unbindLine (s : State) (c : CtxNo) :
    (s.unbindLine c).choices = s.choices := by
  unfold State.unbindLine; (repeat' split) <;> rfl

@[simp] theorem State.pending_unbindLine (s : State) (c : CtxNo) :
    (s.unbindLine c).pending = s.pending := by
  unfold State.unbindLine; (repeat' split) <;> rfl

/-! ## `setArmed` -/

@[simp] theorem State.ctx_setArmed (s : State) (c : CtxNo) (b : Bool) (d : CtxNo) :
    (s.setArmed c b).ctx d = s.ctx d := by
  unfold State.setArmed; split <;> rfl

@[simp] theorem State.window_setArmed (s : State) (c : CtxNo) (b : Bool) (u : WinNo) :
    (s.setArmed c b).window u = s.window u := by
  unfold State.setArmed; split <;> rfl

@[simp] theorem State.port_setArmed (s : State) (c : CtxNo) (b : Bool) (g : HostNo) :
    (s.setArmed c b).port g = s.port g := by
  unfold State.setArmed; split <;> rfl

@[simp] theorem State.cq_setArmed (s : State) (c : CtxNo) (b : Bool) (g : HostNo) :
    (s.setArmed c b).cq g = s.cq g := by
  unfold State.setArmed; split <;> rfl

@[simp] theorem State.wd_setArmed (s : State) (c : CtxNo) (b : Bool) (g : HostNo) :
    (s.setArmed c b).wd g = s.wd g := by
  unfold State.setArmed; split <;> rfl

@[simp] theorem State.readyList_setArmed (s : State) (c : CtxNo) (b : Bool) (g : HostNo) :
    (s.setArmed c b).readyList g = s.readyList g := by
  unfold State.setArmed; split <;> rfl

@[simp] theorem State.weight_setArmed (s : State) (c : CtxNo) (b : Bool) (g : HostNo) :
    (s.setArmed c b).weight g = s.weight g := by
  unfold State.setArmed; split <;> rfl

@[simp] theorem State.engine_setArmed (s : State) (c : CtxNo) (b : Bool) :
    (s.setArmed c b).engine = s.engine := by
  unfold State.setArmed; split <;> rfl

@[simp] theorem State.ring_setArmed (s : State) (c : CtxNo) (b : Bool) :
    (s.setArmed c b).sched.ring = s.sched.ring := by
  unfold State.setArmed; split <;> rfl

@[simp] theorem State.pointer_setArmed (s : State) (c : CtxNo) (b : Bool) :
    (s.setArmed c b).sched.pointer = s.sched.pointer := by
  unfold State.setArmed; split <;> rfl

@[simp] theorem State.mark_setArmed (s : State) (c : CtxNo) (b : Bool) :
    (s.setArmed c b).sched.mark = s.sched.mark := by
  unfold State.setArmed; split <;> rfl

@[simp] theorem State.work_setArmed (s : State) (c : CtxNo) (b : Bool) :
    (s.setArmed c b).sched.work = s.sched.work := by
  unfold State.setArmed; split <;> rfl

@[simp] theorem State.choices_setArmed (s : State) (c : CtxNo) (b : Bool) :
    (s.setArmed c b).choices = s.choices := by
  unfold State.setArmed; split <;> rfl

@[simp] theorem State.pending_setArmed (s : State) (c : CtxNo) (b : Bool) :
    (s.setArmed c b).pending = s.pending := by
  unfold State.setArmed; split <;> rfl

/-! ## `releaseResources` -/

@[simp] theorem State.ctx_releaseResources (s : State) (c : CtxNo) (d : CtxNo) :
    (s.releaseResources c).ctx d = s.ctx d := by
  rw [State.releaseResources, State.ctx_unbindLine]
  exact foldl_keeps State.releaseRef (·.ctx d) (fun t w => State.ctx_releaseRef t w d) _ _

@[simp] theorem State.port_releaseResources (s : State) (c : CtxNo) (g : HostNo) :
    (s.releaseResources c).port g = s.port g := by
  rw [State.releaseResources, State.port_unbindLine]
  exact foldl_keeps State.releaseRef (·.port g) (fun t w => State.port_releaseRef t w g) _ _

@[simp] theorem State.cq_releaseResources (s : State) (c : CtxNo) (g : HostNo) :
    (s.releaseResources c).cq g = s.cq g := by
  rw [State.releaseResources, State.cq_unbindLine]
  exact foldl_keeps State.releaseRef (·.cq g) (fun t w => State.cq_releaseRef t w g) _ _

@[simp] theorem State.wd_releaseResources (s : State) (c : CtxNo) (g : HostNo) :
    (s.releaseResources c).wd g = s.wd g := by
  rw [State.releaseResources, State.wd_unbindLine]
  exact foldl_keeps State.releaseRef (·.wd g) (fun t w => State.wd_releaseRef t w g) _ _

@[simp] theorem State.readyList_releaseResources (s : State) (c : CtxNo) (g : HostNo) :
    (s.releaseResources c).readyList g = s.readyList g := by
  rw [State.releaseResources, State.readyList_unbindLine]
  exact foldl_keeps State.releaseRef (·.readyList g) (fun t w => State.readyList_releaseRef t w g) _ _

@[simp] theorem State.weight_releaseResources (s : State) (c : CtxNo) (g : HostNo) :
    (s.releaseResources c).weight g = s.weight g := by
  rw [State.releaseResources, State.weight_unbindLine]
  exact foldl_keeps State.releaseRef (·.weight g) (fun t w => State.weight_releaseRef t w g) _ _

@[simp] theorem State.engine_releaseResources (s : State) (c : CtxNo) :
    (s.releaseResources c).engine = s.engine := by
  rw [State.releaseResources, State.engine_unbindLine]
  exact foldl_keeps State.releaseRef (·.engine) (fun t w => State.engine_releaseRef t w) _ _

@[simp] theorem State.ring_releaseResources (s : State) (c : CtxNo) :
    (s.releaseResources c).sched.ring = s.sched.ring := by
  rw [State.releaseResources, State.ring_unbindLine]
  exact foldl_keeps State.releaseRef (·.sched.ring) (fun t w => State.ring_releaseRef t w) _ _

@[simp] theorem State.pointer_releaseResources (s : State) (c : CtxNo) :
    (s.releaseResources c).sched.pointer = s.sched.pointer := by
  rw [State.releaseResources, State.pointer_unbindLine]
  exact foldl_keeps State.releaseRef (·.sched.pointer) (fun t w => State.pointer_releaseRef t w) _ _

@[simp] theorem State.mark_releaseResources (s : State) (c : CtxNo) :
    (s.releaseResources c).sched.mark = s.sched.mark := by
  rw [State.releaseResources, State.mark_unbindLine]
  exact foldl_keeps State.releaseRef (·.sched.mark) (fun t w => State.mark_releaseRef t w) _ _

@[simp] theorem State.work_releaseResources (s : State) (c : CtxNo) :
    (s.releaseResources c).sched.work = s.sched.work := by
  rw [State.releaseResources, State.work_unbindLine]
  exact foldl_keeps State.releaseRef (·.sched.work) (fun t w => State.work_releaseRef t w) _ _

@[simp] theorem State.choices_releaseResources (s : State) (c : CtxNo) :
    (s.releaseResources c).choices = s.choices := by
  rw [State.releaseResources, State.choices_unbindLine]
  exact foldl_keeps State.releaseRef (·.choices) (fun t w => State.choices_releaseRef t w) _ _

@[simp] theorem State.pending_releaseResources (s : State) (c : CtxNo) :
    (s.releaseResources c).pending = s.pending := by
  rw [State.releaseResources, State.pending_unbindLine]
  exact foldl_keeps State.releaseRef (·.pending) (fun t w => State.pending_releaseRef t w) _ _

/-! ## `takeResources` -/

@[simp] theorem State.ctx_takeResources (s : State) (c : CtxNo) (d : CtxNo) :
    (s.takeResources c).ctx d = s.ctx d := by
  rw [State.takeResources, State.ctx_bindLine]
  exact foldl_keeps State.addRef (·.ctx d) (fun t w => State.ctx_addRef t w d) _ _

@[simp] theorem State.port_takeResources (s : State) (c : CtxNo) (g : HostNo) :
    (s.takeResources c).port g = s.port g := by
  rw [State.takeResources, State.port_bindLine]
  exact foldl_keeps State.addRef (·.port g) (fun t w => State.port_addRef t w g) _ _

@[simp] theorem State.cq_takeResources (s : State) (c : CtxNo) (g : HostNo) :
    (s.takeResources c).cq g = s.cq g := by
  rw [State.takeResources, State.cq_bindLine]
  exact foldl_keeps State.addRef (·.cq g) (fun t w => State.cq_addRef t w g) _ _

@[simp] theorem State.wd_takeResources (s : State) (c : CtxNo) (g : HostNo) :
    (s.takeResources c).wd g = s.wd g := by
  rw [State.takeResources, State.wd_bindLine]
  exact foldl_keeps State.addRef (·.wd g) (fun t w => State.wd_addRef t w g) _ _

@[simp] theorem State.readyList_takeResources (s : State) (c : CtxNo) (g : HostNo) :
    (s.takeResources c).readyList g = s.readyList g := by
  rw [State.takeResources, State.readyList_bindLine]
  exact foldl_keeps State.addRef (·.readyList g) (fun t w => State.readyList_addRef t w g) _ _

@[simp] theorem State.weight_takeResources (s : State) (c : CtxNo) (g : HostNo) :
    (s.takeResources c).weight g = s.weight g := by
  rw [State.takeResources, State.weight_bindLine]
  exact foldl_keeps State.addRef (·.weight g) (fun t w => State.weight_addRef t w g) _ _

@[simp] theorem State.engine_takeResources (s : State) (c : CtxNo) :
    (s.takeResources c).engine = s.engine := by
  rw [State.takeResources, State.engine_bindLine]
  exact foldl_keeps State.addRef (·.engine) (fun t w => State.engine_addRef t w) _ _

@[simp] theorem State.ring_takeResources (s : State) (c : CtxNo) :
    (s.takeResources c).sched.ring = s.sched.ring := by
  rw [State.takeResources, State.ring_bindLine]
  exact foldl_keeps State.addRef (·.sched.ring) (fun t w => State.ring_addRef t w) _ _

@[simp] theorem State.pointer_takeResources (s : State) (c : CtxNo) :
    (s.takeResources c).sched.pointer = s.sched.pointer := by
  rw [State.takeResources, State.pointer_bindLine]
  exact foldl_keeps State.addRef (·.sched.pointer) (fun t w => State.pointer_addRef t w) _ _

@[simp] theorem State.mark_takeResources (s : State) (c : CtxNo) :
    (s.takeResources c).sched.mark = s.sched.mark := by
  rw [State.takeResources, State.mark_bindLine]
  exact foldl_keeps State.addRef (·.sched.mark) (fun t w => State.mark_addRef t w) _ _

@[simp] theorem State.work_takeResources (s : State) (c : CtxNo) :
    (s.takeResources c).sched.work = s.sched.work := by
  rw [State.takeResources, State.work_bindLine]
  exact foldl_keeps State.addRef (·.sched.work) (fun t w => State.work_addRef t w) _ _

@[simp] theorem State.choices_takeResources (s : State) (c : CtxNo) :
    (s.takeResources c).choices = s.choices := by
  rw [State.takeResources, State.choices_bindLine]
  exact foldl_keeps State.addRef (·.choices) (fun t w => State.choices_addRef t w) _ _

@[simp] theorem State.pending_takeResources (s : State) (c : CtxNo) :
    (s.takeResources c).pending = s.pending := by
  rw [State.takeResources, State.pending_bindLine]
  exact foldl_keeps State.addRef (·.pending) (fun t w => State.pending_addRef t w) _ _

/-! ## `enterTail` -/

@[simp] theorem State.ctx_enterTail (s : State) (h : HostNo) (c : CtxNo) (d : CtxNo) :
    (s.enterTail h c).ctx d = s.ctx d := rfl

@[simp] theorem State.window_enterTail (s : State) (h : HostNo) (c : CtxNo) (u : WinNo) :
    (s.enterTail h c).window u = s.window u := rfl

@[simp] theorem State.line_enterTail (s : State) (h : HostNo) (c : CtxNo) (m : LineNo) :
    (s.enterTail h c).line m = s.line m := rfl

@[simp] theorem State.port_enterTail (s : State) (h : HostNo) (c : CtxNo) (g : HostNo) :
    (s.enterTail h c).port g = s.port g := rfl

@[simp] theorem State.cq_enterTail (s : State) (h : HostNo) (c : CtxNo) (g : HostNo) :
    (s.enterTail h c).cq g = s.cq g := rfl

@[simp] theorem State.wd_enterTail (s : State) (h : HostNo) (c : CtxNo) (g : HostNo) :
    (s.enterTail h c).wd g = s.wd g := rfl

@[simp] theorem State.weight_enterTail (s : State) (h : HostNo) (c : CtxNo) (g : HostNo) :
    (s.enterTail h c).weight g = s.weight g := rfl

@[simp] theorem State.engine_enterTail (s : State) (h : HostNo) (c : CtxNo) :
    (s.enterTail h c).engine = s.engine := rfl

@[simp] theorem State.ring_enterTail (s : State) (h : HostNo) (c : CtxNo) :
    (s.enterTail h c).sched.ring = s.sched.ring := rfl

@[simp] theorem State.pointer_enterTail (s : State) (h : HostNo) (c : CtxNo) :
    (s.enterTail h c).sched.pointer = s.sched.pointer := rfl

@[simp] theorem State.mark_enterTail (s : State) (h : HostNo) (c : CtxNo) :
    (s.enterTail h c).sched.mark = s.sched.mark := rfl

@[simp] theorem State.work_enterTail (s : State) (h : HostNo) (c : CtxNo) :
    (s.enterTail h c).sched.work = s.sched.work := rfl

@[simp] theorem State.choices_enterTail (s : State) (h : HostNo) (c : CtxNo) :
    (s.enterTail h c).choices = s.choices := rfl

@[simp] theorem State.pending_enterTail (s : State) (h : HostNo) (c : CtxNo) :
    (s.enterTail h c).pending = s.pending := rfl

/-! ## `enterHead` -/

@[simp] theorem State.ctx_enterHead (s : State) (h : HostNo) (c : CtxNo) (d : CtxNo) :
    (s.enterHead h c).ctx d = s.ctx d := rfl

@[simp] theorem State.window_enterHead (s : State) (h : HostNo) (c : CtxNo) (u : WinNo) :
    (s.enterHead h c).window u = s.window u := rfl

@[simp] theorem State.line_enterHead (s : State) (h : HostNo) (c : CtxNo) (m : LineNo) :
    (s.enterHead h c).line m = s.line m := rfl

@[simp] theorem State.port_enterHead (s : State) (h : HostNo) (c : CtxNo) (g : HostNo) :
    (s.enterHead h c).port g = s.port g := rfl

@[simp] theorem State.cq_enterHead (s : State) (h : HostNo) (c : CtxNo) (g : HostNo) :
    (s.enterHead h c).cq g = s.cq g := rfl

@[simp] theorem State.wd_enterHead (s : State) (h : HostNo) (c : CtxNo) (g : HostNo) :
    (s.enterHead h c).wd g = s.wd g := rfl

@[simp] theorem State.weight_enterHead (s : State) (h : HostNo) (c : CtxNo) (g : HostNo) :
    (s.enterHead h c).weight g = s.weight g := rfl

@[simp] theorem State.engine_enterHead (s : State) (h : HostNo) (c : CtxNo) :
    (s.enterHead h c).engine = s.engine := rfl

@[simp] theorem State.ring_enterHead (s : State) (h : HostNo) (c : CtxNo) :
    (s.enterHead h c).sched.ring = s.sched.ring := rfl

@[simp] theorem State.pointer_enterHead (s : State) (h : HostNo) (c : CtxNo) :
    (s.enterHead h c).sched.pointer = s.sched.pointer := rfl

@[simp] theorem State.mark_enterHead (s : State) (h : HostNo) (c : CtxNo) :
    (s.enterHead h c).sched.mark = s.sched.mark := rfl

@[simp] theorem State.work_enterHead (s : State) (h : HostNo) (c : CtxNo) :
    (s.enterHead h c).sched.work = s.sched.work := rfl

@[simp] theorem State.choices_enterHead (s : State) (h : HostNo) (c : CtxNo) :
    (s.enterHead h c).choices = s.choices := rfl

@[simp] theorem State.pending_enterHead (s : State) (h : HostNo) (c : CtxNo) :
    (s.enterHead h c).pending = s.pending := rfl

/-! ## `leaveReady` -/

@[simp] theorem State.ctx_leaveReady (s : State) (h : HostNo) (c : CtxNo) (d : CtxNo) :
    (s.leaveReady h c).ctx d = s.ctx d := rfl

@[simp] theorem State.window_leaveReady (s : State) (h : HostNo) (c : CtxNo) (u : WinNo) :
    (s.leaveReady h c).window u = s.window u := rfl

@[simp] theorem State.line_leaveReady (s : State) (h : HostNo) (c : CtxNo) (m : LineNo) :
    (s.leaveReady h c).line m = s.line m := rfl

@[simp] theorem State.port_leaveReady (s : State) (h : HostNo) (c : CtxNo) (g : HostNo) :
    (s.leaveReady h c).port g = s.port g := rfl

@[simp] theorem State.cq_leaveReady (s : State) (h : HostNo) (c : CtxNo) (g : HostNo) :
    (s.leaveReady h c).cq g = s.cq g := rfl

@[simp] theorem State.wd_leaveReady (s : State) (h : HostNo) (c : CtxNo) (g : HostNo) :
    (s.leaveReady h c).wd g = s.wd g := rfl

@[simp] theorem State.weight_leaveReady (s : State) (h : HostNo) (c : CtxNo) (g : HostNo) :
    (s.leaveReady h c).weight g = s.weight g := rfl

@[simp] theorem State.engine_leaveReady (s : State) (h : HostNo) (c : CtxNo) :
    (s.leaveReady h c).engine = s.engine := rfl

@[simp] theorem State.ring_leaveReady (s : State) (h : HostNo) (c : CtxNo) :
    (s.leaveReady h c).sched.ring = s.sched.ring := rfl

@[simp] theorem State.pointer_leaveReady (s : State) (h : HostNo) (c : CtxNo) :
    (s.leaveReady h c).sched.pointer = s.sched.pointer := rfl

@[simp] theorem State.mark_leaveReady (s : State) (h : HostNo) (c : CtxNo) :
    (s.leaveReady h c).sched.mark = s.sched.mark := rfl

@[simp] theorem State.work_leaveReady (s : State) (h : HostNo) (c : CtxNo) :
    (s.leaveReady h c).sched.work = s.sched.work := rfl

@[simp] theorem State.choices_leaveReady (s : State) (h : HostNo) (c : CtxNo) :
    (s.leaveReady h c).choices = s.choices := rfl

@[simp] theorem State.pending_leaveReady (s : State) (h : HostNo) (c : CtxNo) :
    (s.leaveReady h c).pending = s.pending := rfl

/-! ## `rebuild` -/

@[simp] theorem State.ctx_rebuild (s : State) (d : CtxNo) :
    s.rebuild.ctx d = s.ctx d := rfl

@[simp] theorem State.window_rebuild (s : State) (u : WinNo) :
    s.rebuild.window u = s.window u := rfl

@[simp] theorem State.line_rebuild (s : State) (m : LineNo) :
    s.rebuild.line m = s.line m := rfl

@[simp] theorem State.port_rebuild (s : State) (g : HostNo) :
    s.rebuild.port g = s.port g := rfl

@[simp] theorem State.cq_rebuild (s : State) (g : HostNo) :
    s.rebuild.cq g = s.cq g := rfl

@[simp] theorem State.wd_rebuild (s : State) (g : HostNo) :
    s.rebuild.wd g = s.wd g := rfl

@[simp] theorem State.readyList_rebuild (s : State) (g : HostNo) :
    s.rebuild.readyList g = s.readyList g := rfl

@[simp] theorem State.weight_rebuild (s : State) (g : HostNo) :
    s.rebuild.weight g = s.weight g := rfl

@[simp] theorem State.engine_rebuild (s : State) :
    s.rebuild.engine = s.engine := rfl

@[simp] theorem State.work_rebuild (s : State) :
    s.rebuild.sched.work = s.sched.work := rfl

@[simp] theorem State.choices_rebuild (s : State) :
    s.rebuild.choices = s.choices := rfl

@[simp] theorem State.pending_rebuild (s : State) :
    s.rebuild.pending = s.pending := rfl

/-! ## `movePointer` -/

@[simp] theorem State.ctx_movePointer (s : State) (d : CtxNo) :
    s.movePointer.ctx d = s.ctx d := by
  unfold State.movePointer; split <;> rfl

@[simp] theorem State.window_movePointer (s : State) (u : WinNo) :
    s.movePointer.window u = s.window u := by
  unfold State.movePointer; split <;> rfl

@[simp] theorem State.line_movePointer (s : State) (m : LineNo) :
    s.movePointer.line m = s.line m := by
  unfold State.movePointer; split <;> rfl

@[simp] theorem State.port_movePointer (s : State) (g : HostNo) :
    s.movePointer.port g = s.port g := by
  unfold State.movePointer; split <;> rfl

@[simp] theorem State.cq_movePointer (s : State) (g : HostNo) :
    s.movePointer.cq g = s.cq g := by
  unfold State.movePointer; split <;> rfl

@[simp] theorem State.wd_movePointer (s : State) (g : HostNo) :
    s.movePointer.wd g = s.wd g := by
  unfold State.movePointer; split <;> rfl

@[simp] theorem State.readyList_movePointer (s : State) (g : HostNo) :
    s.movePointer.readyList g = s.readyList g := by
  unfold State.movePointer; split <;> rfl

@[simp] theorem State.weight_movePointer (s : State) (g : HostNo) :
    s.movePointer.weight g = s.weight g := by
  unfold State.movePointer; split <;> rfl

@[simp] theorem State.engine_movePointer (s : State) :
    s.movePointer.engine = s.engine := by
  unfold State.movePointer; split <;> rfl

@[simp] theorem State.ring_movePointer (s : State) :
    s.movePointer.sched.ring = s.sched.ring := by
  unfold State.movePointer; split <;> rfl

@[simp] theorem State.work_movePointer (s : State) :
    s.movePointer.sched.work = s.sched.work := by
  unfold State.movePointer; split <;> rfl

@[simp] theorem State.choices_movePointer (s : State) :
    s.movePointer.choices = s.choices := by
  unfold State.movePointer; split <;> rfl

@[simp] theorem State.pending_movePointer (s : State) :
    s.movePointer.pending = s.pending := by
  unfold State.movePointer; split <;> rfl

/-! ## `dropMark` -/

@[simp] theorem State.ctx_dropMark (s : State) (d : CtxNo) :
    s.dropMark.ctx d = s.ctx d := rfl

@[simp] theorem State.window_dropMark (s : State) (u : WinNo) :
    s.dropMark.window u = s.window u := rfl

@[simp] theorem State.line_dropMark (s : State) (m : LineNo) :
    s.dropMark.line m = s.line m := rfl

@[simp] theorem State.port_dropMark (s : State) (g : HostNo) :
    s.dropMark.port g = s.port g := rfl

@[simp] theorem State.cq_dropMark (s : State) (g : HostNo) :
    s.dropMark.cq g = s.cq g := rfl

@[simp] theorem State.wd_dropMark (s : State) (g : HostNo) :
    s.dropMark.wd g = s.wd g := rfl

@[simp] theorem State.readyList_dropMark (s : State) (g : HostNo) :
    s.dropMark.readyList g = s.readyList g := rfl

@[simp] theorem State.weight_dropMark (s : State) (g : HostNo) :
    s.dropMark.weight g = s.weight g := rfl

@[simp] theorem State.engine_dropMark (s : State) :
    s.dropMark.engine = s.engine := rfl

@[simp] theorem State.ring_dropMark (s : State) :
    s.dropMark.sched.ring = s.sched.ring := rfl

@[simp] theorem State.pointer_dropMark (s : State) :
    s.dropMark.sched.pointer = s.sched.pointer := rfl

@[simp] theorem State.work_dropMark (s : State) :
    s.dropMark.sched.work = s.sched.work := rfl

@[simp] theorem State.choices_dropMark (s : State) :
    s.dropMark.choices = s.choices := rfl

@[simp] theorem State.pending_dropMark (s : State) :
    s.dropMark.pending = s.pending := rfl

/-! ## `reevaluate` -/

@[simp] theorem State.ctx_reevaluate (s : State) (d : CtxNo) :
    s.reevaluate.ctx d = s.ctx d := by
  unfold State.reevaluate; dsimp only; split <;> (try split) <;> rfl

@[simp] theorem State.window_reevaluate (s : State) (u : WinNo) :
    s.reevaluate.window u = s.window u := by
  unfold State.reevaluate; dsimp only; split <;> (try split) <;> rfl

@[simp] theorem State.line_reevaluate (s : State) (m : LineNo) :
    s.reevaluate.line m = s.line m := by
  unfold State.reevaluate; dsimp only; split <;> (try split) <;> rfl

@[simp] theorem State.port_reevaluate (s : State) (g : HostNo) :
    s.reevaluate.port g = s.port g := by
  unfold State.reevaluate; dsimp only; split <;> (try split) <;> rfl

@[simp] theorem State.cq_reevaluate (s : State) (g : HostNo) :
    s.reevaluate.cq g = s.cq g := by
  unfold State.reevaluate; dsimp only; split <;> (try split) <;> rfl

@[simp] theorem State.wd_reevaluate (s : State) (g : HostNo) :
    s.reevaluate.wd g = s.wd g := by
  unfold State.reevaluate; dsimp only; split <;> (try split) <;> rfl

@[simp] theorem State.readyList_reevaluate (s : State) (g : HostNo) :
    s.reevaluate.readyList g = s.readyList g := by
  unfold State.reevaluate; dsimp only; split <;> (try split) <;> rfl

@[simp] theorem State.weight_reevaluate (s : State) (g : HostNo) :
    s.reevaluate.weight g = s.weight g := by
  unfold State.reevaluate; dsimp only; split <;> (try split) <;> rfl

@[simp] theorem State.ring_reevaluate (s : State) :
    s.reevaluate.sched.ring = s.sched.ring := by
  unfold State.reevaluate; dsimp only; split <;> (try split) <;> rfl

@[simp] theorem State.pointer_reevaluate (s : State) :
    s.reevaluate.sched.pointer = s.sched.pointer := by
  unfold State.reevaluate; dsimp only; split <;> (try split) <;> rfl

@[simp] theorem State.mark_reevaluate (s : State) :
    s.reevaluate.sched.mark = s.sched.mark := by
  unfold State.reevaluate; dsimp only; split <;> (try split) <;> rfl

@[simp] theorem State.choices_reevaluate (s : State) :
    s.reevaluate.choices = s.choices := by
  unfold State.reevaluate; dsimp only; split <;> (try split) <;> rfl

@[simp] theorem State.pending_reevaluate (s : State) :
    s.reevaluate.pending = s.pending := by
  unfold State.reevaluate; dsimp only; split <;> (try split) <;> rfl

/-! ## `takeStart` -/

@[simp] theorem State.port_takeStart (s : State) (c : CtxNo) (h : HostNo) (g : HostNo) :
    (s.takeStart c h).port g = s.port g := by
  simp [State.takeStart]

@[simp] theorem State.cq_takeStart (s : State) (c : CtxNo) (h : HostNo) (g : HostNo) :
    (s.takeStart c h).cq g = s.cq g := by
  simp [State.takeStart]

@[simp] theorem State.wd_takeStart (s : State) (c : CtxNo) (h : HostNo) (g : HostNo) :
    (s.takeStart c h).wd g = s.wd g := by
  simp [State.takeStart]

@[simp] theorem State.weight_takeStart (s : State) (c : CtxNo) (h : HostNo) (g : HostNo) :
    (s.takeStart c h).weight g = s.weight g := by
  simp [State.takeStart]

@[simp] theorem State.engine_takeStart (s : State) (c : CtxNo) (h : HostNo) :
    (s.takeStart c h).engine = s.engine := by
  simp [State.takeStart]

@[simp] theorem State.ring_takeStart (s : State) (c : CtxNo) (h : HostNo) :
    (s.takeStart c h).sched.ring = s.sched.ring := by
  simp [State.takeStart]

@[simp] theorem State.pointer_takeStart (s : State) (c : CtxNo) (h : HostNo) :
    (s.takeStart c h).sched.pointer = s.sched.pointer := by
  simp [State.takeStart]

@[simp] theorem State.mark_takeStart (s : State) (c : CtxNo) (h : HostNo) :
    (s.takeStart c h).sched.mark = s.sched.mark := by
  simp [State.takeStart]

@[simp] theorem State.work_takeStart (s : State) (c : CtxNo) (h : HostNo) :
    (s.takeStart c h).sched.work = s.sched.work := by
  simp [State.takeStart]

@[simp] theorem State.choices_takeStart (s : State) (c : CtxNo) (h : HostNo) :
    (s.takeStart c h).choices = s.choices := by
  simp [State.takeStart]

@[simp] theorem State.pending_takeStart (s : State) (c : CtxNo) (h : HostNo) :
    (s.takeStart c h).pending = s.pending := by
  simp [State.takeStart]

/-! ## `toClaimed` -/

@[simp] theorem State.port_toClaimed (s : State) (c : CtxNo) (g : HostNo) :
    (s.toClaimed c).port g = s.port g := by
  simp [State.toClaimed]

@[simp] theorem State.cq_toClaimed (s : State) (c : CtxNo) (g : HostNo) :
    (s.toClaimed c).cq g = s.cq g := by
  simp [State.toClaimed]

@[simp] theorem State.wd_toClaimed (s : State) (c : CtxNo) (g : HostNo) :
    (s.toClaimed c).wd g = s.wd g := by
  simp [State.toClaimed]

@[simp] theorem State.readyList_toClaimed (s : State) (c : CtxNo) (g : HostNo) :
    (s.toClaimed c).readyList g = s.readyList g := by
  simp [State.toClaimed]

@[simp] theorem State.weight_toClaimed (s : State) (c : CtxNo) (g : HostNo) :
    (s.toClaimed c).weight g = s.weight g := by
  simp [State.toClaimed]

@[simp] theorem State.engine_toClaimed (s : State) (c : CtxNo) :
    (s.toClaimed c).engine = s.engine := by
  simp [State.toClaimed]

@[simp] theorem State.ring_toClaimed (s : State) (c : CtxNo) :
    (s.toClaimed c).sched.ring = s.sched.ring := by
  simp [State.toClaimed]

@[simp] theorem State.pointer_toClaimed (s : State) (c : CtxNo) :
    (s.toClaimed c).sched.pointer = s.sched.pointer := by
  simp [State.toClaimed]

@[simp] theorem State.mark_toClaimed (s : State) (c : CtxNo) :
    (s.toClaimed c).sched.mark = s.sched.mark := by
  simp [State.toClaimed]

@[simp] theorem State.work_toClaimed (s : State) (c : CtxNo) :
    (s.toClaimed c).sched.work = s.sched.work := by
  simp [State.toClaimed]

@[simp] theorem State.choices_toClaimed (s : State) (c : CtxNo) :
    (s.toClaimed c).choices = s.choices := by
  simp [State.toClaimed]

@[simp] theorem State.pending_toClaimed (s : State) (c : CtxNo) :
    (s.toClaimed c).pending = s.pending := by
  simp [State.toClaimed]

/-! ## `reload` -/

@[simp] theorem State.window_reload (s : State) (c : CtxNo) (h : HostNo) (u : WinNo) :
    (s.reload c h).window u = s.window u := by
  unfold State.reload; try dsimp only
  (repeat' split) <;> simp

@[simp] theorem State.line_reload (s : State) (c : CtxNo) (h : HostNo) (m : LineNo) :
    (s.reload c h).line m = s.line m := by
  unfold State.reload; try dsimp only
  (repeat' split) <;> simp

@[simp] theorem State.port_reload (s : State) (c : CtxNo) (h : HostNo) (g : HostNo) :
    (s.reload c h).port g = s.port g := by
  unfold State.reload; try dsimp only
  (repeat' split) <;> simp

@[simp] theorem State.cq_reload (s : State) (c : CtxNo) (h : HostNo) (g : HostNo) :
    (s.reload c h).cq g = s.cq g := by
  unfold State.reload; try dsimp only
  (repeat' split) <;> simp

@[simp] theorem State.wd_reload (s : State) (c : CtxNo) (h : HostNo) (g : HostNo) :
    (s.reload c h).wd g = s.wd g := by
  unfold State.reload; try dsimp only
  (repeat' split) <;> simp

@[simp] theorem State.weight_reload (s : State) (c : CtxNo) (h : HostNo) (g : HostNo) :
    (s.reload c h).weight g = s.weight g := by
  unfold State.reload; try dsimp only
  (repeat' split) <;> simp

@[simp] theorem State.engine_reload (s : State) (c : CtxNo) (h : HostNo) :
    (s.reload c h).engine = s.engine := by
  unfold State.reload; try dsimp only
  (repeat' split) <;> simp

@[simp] theorem State.ring_reload (s : State) (c : CtxNo) (h : HostNo) :
    (s.reload c h).sched.ring = s.sched.ring := by
  unfold State.reload; try dsimp only
  (repeat' split) <;> simp

@[simp] theorem State.pointer_reload (s : State) (c : CtxNo) (h : HostNo) :
    (s.reload c h).sched.pointer = s.sched.pointer := by
  unfold State.reload; try dsimp only
  (repeat' split) <;> simp

@[simp] theorem State.mark_reload (s : State) (c : CtxNo) (h : HostNo) :
    (s.reload c h).sched.mark = s.sched.mark := by
  unfold State.reload; try dsimp only
  (repeat' split) <;> simp

@[simp] theorem State.work_reload (s : State) (c : CtxNo) (h : HostNo) :
    (s.reload c h).sched.work = s.sched.work := by
  unfold State.reload; try dsimp only
  (repeat' split) <;> simp

@[simp] theorem State.choices_reload (s : State) (c : CtxNo) (h : HostNo) :
    (s.reload c h).choices = s.choices := by
  unfold State.reload; try dsimp only
  (repeat' split) <;> simp

@[simp] theorem State.pending_reload (s : State) (c : CtxNo) (h : HostNo) :
    (s.reload c h).pending = s.pending := by
  unfold State.reload; try dsimp only
  (repeat' split) <;> simp

/-! ## `dispose` -/

@[simp] theorem State.port_dispose (s : State) (c : CtxNo) (h : HostNo) (k : Cause) (g : HostNo) :
    (s.dispose c h k).1.port g = s.port g := by
  unfold State.dispose; try dsimp only
  (repeat' split) <;> simp

@[simp] theorem State.cq_dispose (s : State) (c : CtxNo) (h : HostNo) (k : Cause) (g : HostNo) :
    (s.dispose c h k).1.cq g = s.cq g := by
  unfold State.dispose; try dsimp only
  (repeat' split) <;> simp

@[simp] theorem State.wd_dispose (s : State) (c : CtxNo) (h : HostNo) (k : Cause) (g : HostNo) :
    (s.dispose c h k).1.wd g = s.wd g := by
  unfold State.dispose; try dsimp only
  (repeat' split) <;> simp

@[simp] theorem State.weight_dispose (s : State) (c : CtxNo) (h : HostNo) (k : Cause) (g : HostNo) :
    (s.dispose c h k).1.weight g = s.weight g := by
  unfold State.dispose; try dsimp only
  (repeat' split) <;> simp

@[simp] theorem State.engine_dispose (s : State) (c : CtxNo) (h : HostNo) (k : Cause) :
    (s.dispose c h k).1.engine = s.engine := by
  unfold State.dispose; try dsimp only
  (repeat' split) <;> simp

@[simp] theorem State.ring_dispose (s : State) (c : CtxNo) (h : HostNo) (k : Cause) :
    (s.dispose c h k).1.sched.ring = s.sched.ring := by
  unfold State.dispose; try dsimp only
  (repeat' split) <;> simp

@[simp] theorem State.pointer_dispose (s : State) (c : CtxNo) (h : HostNo) (k : Cause) :
    (s.dispose c h k).1.sched.pointer = s.sched.pointer := by
  unfold State.dispose; try dsimp only
  (repeat' split) <;> simp

@[simp] theorem State.mark_dispose (s : State) (c : CtxNo) (h : HostNo) (k : Cause) :
    (s.dispose c h k).1.sched.mark = s.sched.mark := by
  unfold State.dispose; try dsimp only
  (repeat' split) <;> simp

@[simp] theorem State.work_dispose (s : State) (c : CtxNo) (h : HostNo) (k : Cause) :
    (s.dispose c h k).1.sched.work = s.sched.work := by
  unfold State.dispose; try dsimp only
  (repeat' split) <;> simp

@[simp] theorem State.choices_dispose (s : State) (c : CtxNo) (h : HostNo) (k : Cause) :
    (s.dispose c h k).1.choices = s.choices := by
  unfold State.dispose; try dsimp only
  (repeat' split) <;> simp

@[simp] theorem State.pending_dispose (s : State) (c : CtxNo) (h : HostNo) (k : Cause) :
    (s.dispose c h k).1.pending = s.pending := by
  unfold State.dispose; try dsimp only
  (repeat' split) <;> simp

/-! ## `pushRecord` -/

@[simp] theorem State.ctx_pushRecord (s : State) (h : HostNo) (r : Record) (d : CtxNo) :
    (s.pushRecord h r).ctx d = s.ctx d := rfl

@[simp] theorem State.window_pushRecord (s : State) (h : HostNo) (r : Record) (u : WinNo) :
    (s.pushRecord h r).window u = s.window u := rfl

@[simp] theorem State.line_pushRecord (s : State) (h : HostNo) (r : Record) (m : LineNo) :
    (s.pushRecord h r).line m = s.line m := rfl

@[simp] theorem State.port_pushRecord (s : State) (h : HostNo) (r : Record) (g : HostNo) :
    (s.pushRecord h r).port g = s.port g := rfl

@[simp] theorem State.wd_pushRecord (s : State) (h : HostNo) (r : Record) (g : HostNo) :
    (s.pushRecord h r).wd g = s.wd g := rfl

@[simp] theorem State.readyList_pushRecord (s : State) (h : HostNo) (r : Record) (g : HostNo) :
    (s.pushRecord h r).readyList g = s.readyList g := rfl

@[simp] theorem State.weight_pushRecord (s : State) (h : HostNo) (r : Record) (g : HostNo) :
    (s.pushRecord h r).weight g = s.weight g := rfl

@[simp] theorem State.engine_pushRecord (s : State) (h : HostNo) (r : Record) :
    (s.pushRecord h r).engine = s.engine := rfl

@[simp] theorem State.ring_pushRecord (s : State) (h : HostNo) (r : Record) :
    (s.pushRecord h r).sched.ring = s.sched.ring := rfl

@[simp] theorem State.pointer_pushRecord (s : State) (h : HostNo) (r : Record) :
    (s.pushRecord h r).sched.pointer = s.sched.pointer := rfl

@[simp] theorem State.mark_pushRecord (s : State) (h : HostNo) (r : Record) :
    (s.pushRecord h r).sched.mark = s.sched.mark := rfl

@[simp] theorem State.work_pushRecord (s : State) (h : HostNo) (r : Record) :
    (s.pushRecord h r).sched.work = s.sched.work := rfl

@[simp] theorem State.choices_pushRecord (s : State) (h : HostNo) (r : Record) :
    (s.pushRecord h r).choices = s.choices := rfl

@[simp] theorem State.pending_pushRecord (s : State) (h : HostNo) (r : Record) :
    (s.pushRecord h r).pending = s.pending := rfl

/-! ## `post` -/

@[simp] theorem State.port_post (s : State) (c : CtxNo) (h : HostNo) (e : RunEnd) (g : HostNo) :
    (s.post c h e).port g = s.port g := by
  simp [State.post]

@[simp] theorem State.wd_post (s : State) (c : CtxNo) (h : HostNo) (e : RunEnd) (g : HostNo) :
    (s.post c h e).wd g = s.wd g := by
  simp [State.post]

@[simp] theorem State.weight_post (s : State) (c : CtxNo) (h : HostNo) (e : RunEnd) (g : HostNo) :
    (s.post c h e).weight g = s.weight g := by
  simp [State.post]

@[simp] theorem State.engine_post (s : State) (c : CtxNo) (h : HostNo) (e : RunEnd) :
    (s.post c h e).engine = s.engine := by
  simp [State.post]

@[simp] theorem State.ring_post (s : State) (c : CtxNo) (h : HostNo) (e : RunEnd) :
    (s.post c h e).sched.ring = s.sched.ring := by
  simp [State.post]

@[simp] theorem State.pointer_post (s : State) (c : CtxNo) (h : HostNo) (e : RunEnd) :
    (s.post c h e).sched.pointer = s.sched.pointer := by
  simp [State.post]

@[simp] theorem State.mark_post (s : State) (c : CtxNo) (h : HostNo) (e : RunEnd) :
    (s.post c h e).sched.mark = s.sched.mark := by
  simp [State.post]

@[simp] theorem State.work_post (s : State) (c : CtxNo) (h : HostNo) (e : RunEnd) :
    (s.post c h e).sched.work = s.sched.work := by
  simp [State.post]

@[simp] theorem State.choices_post (s : State) (c : CtxNo) (h : HostNo) (e : RunEnd) :
    (s.post c h e).choices = s.choices := by
  simp [State.post]

@[simp] theorem State.pending_post (s : State) (c : CtxNo) (h : HostNo) (e : RunEnd) :
    (s.post c h e).pending = s.pending := by
  simp [State.post]

/-! ## `hold` -/

@[simp] theorem State.window_hold (s : State) (c : CtxNo) (h : HostNo) (e : RunEnd) (u : WinNo) :
    (s.hold c h e).window u = s.window u := by
  simp [State.hold]

@[simp] theorem State.line_hold (s : State) (c : CtxNo) (h : HostNo) (e : RunEnd) (m : LineNo) :
    (s.hold c h e).line m = s.line m := by
  simp [State.hold]

@[simp] theorem State.port_hold (s : State) (c : CtxNo) (h : HostNo) (e : RunEnd) (g : HostNo) :
    (s.hold c h e).port g = s.port g := by
  simp [State.hold]

@[simp] theorem State.wd_hold (s : State) (c : CtxNo) (h : HostNo) (e : RunEnd) (g : HostNo) :
    (s.hold c h e).wd g = s.wd g := by
  simp [State.hold]

@[simp] theorem State.readyList_hold (s : State) (c : CtxNo) (h : HostNo) (e : RunEnd) (g : HostNo) :
    (s.hold c h e).readyList g = s.readyList g := by
  simp [State.hold]

@[simp] theorem State.weight_hold (s : State) (c : CtxNo) (h : HostNo) (e : RunEnd) (g : HostNo) :
    (s.hold c h e).weight g = s.weight g := by
  simp [State.hold]

@[simp] theorem State.engine_hold (s : State) (c : CtxNo) (h : HostNo) (e : RunEnd) :
    (s.hold c h e).engine = s.engine := by
  simp [State.hold]

@[simp] theorem State.ring_hold (s : State) (c : CtxNo) (h : HostNo) (e : RunEnd) :
    (s.hold c h e).sched.ring = s.sched.ring := by
  simp [State.hold]

@[simp] theorem State.pointer_hold (s : State) (c : CtxNo) (h : HostNo) (e : RunEnd) :
    (s.hold c h e).sched.pointer = s.sched.pointer := by
  simp [State.hold]

@[simp] theorem State.mark_hold (s : State) (c : CtxNo) (h : HostNo) (e : RunEnd) :
    (s.hold c h e).sched.mark = s.sched.mark := by
  simp [State.hold]

@[simp] theorem State.work_hold (s : State) (c : CtxNo) (h : HostNo) (e : RunEnd) :
    (s.hold c h e).sched.work = s.sched.work := by
  simp [State.hold]

@[simp] theorem State.choices_hold (s : State) (c : CtxNo) (h : HostNo) (e : RunEnd) :
    (s.hold c h e).choices = s.choices := by
  simp [State.hold]

@[simp] theorem State.pending_hold (s : State) (c : CtxNo) (h : HostNo) (e : RunEnd) :
    (s.hold c h e).pending = s.pending := by
  simp [State.hold]

/-! ## `runEnds` -/

@[simp] theorem State.port_runEnds (s : State) (c : CtxNo) (h : HostNo) (e : RunEnd) (g : HostNo) :
    (s.runEnds c h e).port g = s.port g := by
  unfold State.runEnds; try dsimp only
  (repeat' split) <;> simp

@[simp] theorem State.wd_runEnds (s : State) (c : CtxNo) (h : HostNo) (e : RunEnd) (g : HostNo) :
    (s.runEnds c h e).wd g = s.wd g := by
  unfold State.runEnds; try dsimp only
  (repeat' split) <;> simp

@[simp] theorem State.weight_runEnds (s : State) (c : CtxNo) (h : HostNo) (e : RunEnd) (g : HostNo) :
    (s.runEnds c h e).weight g = s.weight g := by
  unfold State.runEnds; try dsimp only
  (repeat' split) <;> simp

@[simp] theorem State.engine_runEnds (s : State) (c : CtxNo) (h : HostNo) (e : RunEnd) :
    (s.runEnds c h e).engine = s.engine := by
  unfold State.runEnds; try dsimp only
  (repeat' split) <;> simp

@[simp] theorem State.ring_runEnds (s : State) (c : CtxNo) (h : HostNo) (e : RunEnd) :
    (s.runEnds c h e).sched.ring = s.sched.ring := by
  unfold State.runEnds; try dsimp only
  (repeat' split) <;> simp

@[simp] theorem State.pointer_runEnds (s : State) (c : CtxNo) (h : HostNo) (e : RunEnd) :
    (s.runEnds c h e).sched.pointer = s.sched.pointer := by
  unfold State.runEnds; try dsimp only
  (repeat' split) <;> simp

@[simp] theorem State.mark_runEnds (s : State) (c : CtxNo) (h : HostNo) (e : RunEnd) :
    (s.runEnds c h e).sched.mark = s.sched.mark := by
  unfold State.runEnds; try dsimp only
  (repeat' split) <;> simp

@[simp] theorem State.work_runEnds (s : State) (c : CtxNo) (h : HostNo) (e : RunEnd) :
    (s.runEnds c h e).sched.work = s.sched.work := by
  unfold State.runEnds; try dsimp only
  (repeat' split) <;> simp

@[simp] theorem State.choices_runEnds (s : State) (c : CtxNo) (h : HostNo) (e : RunEnd) :
    (s.runEnds c h e).choices = s.choices := by
  unfold State.runEnds; try dsimp only
  (repeat' split) <;> simp

@[simp] theorem State.pending_runEnds (s : State) (c : CtxNo) (h : HostNo) (e : RunEnd) :
    (s.runEnds c h e).pending = s.pending := by
  unfold State.runEnds; try dsimp only
  (repeat' split) <;> simp

/-! ## `releaseHeld` -/

@[simp] theorem State.port_releaseHeld (s : State) (h : HostNo) (g : HostNo) :
    (s.releaseHeld h).port g = s.port g := by
  unfold State.releaseHeld; try dsimp only
  (repeat' split) <;> simp

@[simp] theorem State.wd_releaseHeld (s : State) (h : HostNo) (g : HostNo) :
    (s.releaseHeld h).wd g = s.wd g := by
  unfold State.releaseHeld; try dsimp only
  (repeat' split) <;> simp

@[simp] theorem State.weight_releaseHeld (s : State) (h : HostNo) (g : HostNo) :
    (s.releaseHeld h).weight g = s.weight g := by
  unfold State.releaseHeld; try dsimp only
  (repeat' split) <;> simp

@[simp] theorem State.engine_releaseHeld (s : State) (h : HostNo) :
    (s.releaseHeld h).engine = s.engine := by
  unfold State.releaseHeld; try dsimp only
  (repeat' split) <;> simp

@[simp] theorem State.ring_releaseHeld (s : State) (h : HostNo) :
    (s.releaseHeld h).sched.ring = s.sched.ring := by
  unfold State.releaseHeld; try dsimp only
  (repeat' split) <;> simp

@[simp] theorem State.pointer_releaseHeld (s : State) (h : HostNo) :
    (s.releaseHeld h).sched.pointer = s.sched.pointer := by
  unfold State.releaseHeld; try dsimp only
  (repeat' split) <;> simp

@[simp] theorem State.mark_releaseHeld (s : State) (h : HostNo) :
    (s.releaseHeld h).sched.mark = s.sched.mark := by
  unfold State.releaseHeld; try dsimp only
  (repeat' split) <;> simp

@[simp] theorem State.work_releaseHeld (s : State) (h : HostNo) :
    (s.releaseHeld h).sched.work = s.sched.work := by
  unfold State.releaseHeld; try dsimp only
  (repeat' split) <;> simp

@[simp] theorem State.choices_releaseHeld (s : State) (h : HostNo) :
    (s.releaseHeld h).choices = s.choices := by
  unfold State.releaseHeld; try dsimp only
  (repeat' split) <;> simp

@[simp] theorem State.pending_releaseHeld (s : State) (h : HostNo) :
    (s.releaseHeld h).pending = s.pending := by
  unfold State.releaseHeld; try dsimp only
  (repeat' split) <;> simp

/-! ## `beginDue` -/

@[simp] theorem State.ctx_beginDue (s : State) (h : HostNo) (d : CtxNo) :
    (s.beginDue h).ctx d = s.ctx d := by
  unfold State.beginDue; try dsimp only
  (repeat' split) <;> simp

@[simp] theorem State.window_beginDue (s : State) (h : HostNo) (u : WinNo) :
    (s.beginDue h).window u = s.window u := by
  unfold State.beginDue; try dsimp only
  (repeat' split) <;> simp

@[simp] theorem State.line_beginDue (s : State) (h : HostNo) (m : LineNo) :
    (s.beginDue h).line m = s.line m := by
  unfold State.beginDue; try dsimp only
  (repeat' split) <;> simp

@[simp] theorem State.port_beginDue (s : State) (h : HostNo) (g : HostNo) :
    (s.beginDue h).port g = s.port g := by
  unfold State.beginDue; try dsimp only
  (repeat' split) <;> simp

@[simp] theorem State.cq_beginDue (s : State) (h : HostNo) (g : HostNo) :
    (s.beginDue h).cq g = s.cq g := by
  unfold State.beginDue; try dsimp only
  (repeat' split) <;> simp

@[simp] theorem State.readyList_beginDue (s : State) (h : HostNo) (g : HostNo) :
    (s.beginDue h).readyList g = s.readyList g := by
  unfold State.beginDue; try dsimp only
  (repeat' split) <;> simp

@[simp] theorem State.weight_beginDue (s : State) (h : HostNo) (g : HostNo) :
    (s.beginDue h).weight g = s.weight g := by
  unfold State.beginDue; try dsimp only
  (repeat' split) <;> simp

@[simp] theorem State.ring_beginDue (s : State) (h : HostNo) :
    (s.beginDue h).sched.ring = s.sched.ring := by
  unfold State.beginDue; try dsimp only
  (repeat' split) <;> simp

@[simp] theorem State.pointer_beginDue (s : State) (h : HostNo) :
    (s.beginDue h).sched.pointer = s.sched.pointer := by
  unfold State.beginDue; try dsimp only
  (repeat' split) <;> simp

@[simp] theorem State.mark_beginDue (s : State) (h : HostNo) :
    (s.beginDue h).sched.mark = s.sched.mark := by
  unfold State.beginDue; try dsimp only
  (repeat' split) <;> simp

@[simp] theorem State.choices_beginDue (s : State) (h : HostNo) :
    (s.beginDue h).choices = s.choices := by
  unfold State.beginDue; try dsimp only
  (repeat' split) <;> simp

@[simp] theorem State.pending_beginDue (s : State) (h : HostNo) :
    (s.beginDue h).pending = s.pending := by
  unfold State.beginDue; try dsimp only
  (repeat' split) <;> simp

/-! ## `deliver` -/

@[simp] theorem State.ctx_deliver (s : State) (h : HostNo) (l : List Byte) (d : CtxNo) :
    (s.deliver h l).ctx d = s.ctx d := by
  unfold State.deliver; try dsimp only
  (repeat' split) <;> simp

@[simp] theorem State.window_deliver (s : State) (h : HostNo) (l : List Byte) (u : WinNo) :
    (s.deliver h l).window u = s.window u := by
  unfold State.deliver; try dsimp only
  (repeat' split) <;> simp

@[simp] theorem State.line_deliver (s : State) (h : HostNo) (l : List Byte) (m : LineNo) :
    (s.deliver h l).line m = s.line m := by
  unfold State.deliver; try dsimp only
  (repeat' split) <;> simp

@[simp] theorem State.cq_deliver (s : State) (h : HostNo) (l : List Byte) (g : HostNo) :
    (s.deliver h l).cq g = s.cq g := by
  unfold State.deliver; try dsimp only
  (repeat' split) <;> simp

@[simp] theorem State.readyList_deliver (s : State) (h : HostNo) (l : List Byte) (g : HostNo) :
    (s.deliver h l).readyList g = s.readyList g := by
  unfold State.deliver; try dsimp only
  (repeat' split) <;> simp

@[simp] theorem State.weight_deliver (s : State) (h : HostNo) (l : List Byte) (g : HostNo) :
    (s.deliver h l).weight g = s.weight g := by
  unfold State.deliver; try dsimp only
  (repeat' split) <;> simp

@[simp] theorem State.ring_deliver (s : State) (h : HostNo) (l : List Byte) :
    (s.deliver h l).sched.ring = s.sched.ring := by
  unfold State.deliver; try dsimp only
  (repeat' split) <;> simp

@[simp] theorem State.pointer_deliver (s : State) (h : HostNo) (l : List Byte) :
    (s.deliver h l).sched.pointer = s.sched.pointer := by
  unfold State.deliver; try dsimp only
  (repeat' split) <;> simp

@[simp] theorem State.mark_deliver (s : State) (h : HostNo) (l : List Byte) :
    (s.deliver h l).sched.mark = s.sched.mark := by
  unfold State.deliver; try dsimp only
  (repeat' split) <;> simp

@[simp] theorem State.choices_deliver (s : State) (h : HostNo) (l : List Byte) :
    (s.deliver h l).choices = s.choices := by
  unfold State.deliver; try dsimp only
  (repeat' split) <;> simp

@[simp] theorem State.pending_deliver (s : State) (h : HostNo) (l : List Byte) :
    (s.deliver h l).pending = s.pending := by
  unfold State.deliver; try dsimp only
  (repeat' split) <;> simp

/-! ## `waitOn` -/

@[simp] theorem State.ctx_waitOn (s : State) (h : HostNo) (c : CtxNo) (d : CtxNo) :
    (s.waitOn h c).ctx d = s.ctx d := by
  unfold State.waitOn; try dsimp only
  (repeat' split) <;> simp

@[simp] theorem State.window_waitOn (s : State) (h : HostNo) (c : CtxNo) (u : WinNo) :
    (s.waitOn h c).window u = s.window u := by
  unfold State.waitOn; try dsimp only
  (repeat' split) <;> simp

@[simp] theorem State.line_waitOn (s : State) (h : HostNo) (c : CtxNo) (m : LineNo) :
    (s.waitOn h c).line m = s.line m := by
  unfold State.waitOn; try dsimp only
  (repeat' split) <;> simp

@[simp] theorem State.cq_waitOn (s : State) (h : HostNo) (c : CtxNo) (g : HostNo) :
    (s.waitOn h c).cq g = s.cq g := by
  unfold State.waitOn; try dsimp only
  (repeat' split) <;> simp

@[simp] theorem State.readyList_waitOn (s : State) (h : HostNo) (c : CtxNo) (g : HostNo) :
    (s.waitOn h c).readyList g = s.readyList g := by
  unfold State.waitOn; try dsimp only
  (repeat' split) <;> simp

@[simp] theorem State.weight_waitOn (s : State) (h : HostNo) (c : CtxNo) (g : HostNo) :
    (s.waitOn h c).weight g = s.weight g := by
  unfold State.waitOn; try dsimp only
  (repeat' split) <;> simp

@[simp] theorem State.ring_waitOn (s : State) (h : HostNo) (c : CtxNo) :
    (s.waitOn h c).sched.ring = s.sched.ring := by
  unfold State.waitOn; try dsimp only
  (repeat' split) <;> simp

@[simp] theorem State.pointer_waitOn (s : State) (h : HostNo) (c : CtxNo) :
    (s.waitOn h c).sched.pointer = s.sched.pointer := by
  unfold State.waitOn; try dsimp only
  (repeat' split) <;> simp

@[simp] theorem State.mark_waitOn (s : State) (h : HostNo) (c : CtxNo) :
    (s.waitOn h c).sched.mark = s.sched.mark := by
  unfold State.waitOn; try dsimp only
  (repeat' split) <;> simp

@[simp] theorem State.choices_waitOn (s : State) (h : HostNo) (c : CtxNo) :
    (s.waitOn h c).choices = s.choices := by
  unfold State.waitOn; try dsimp only
  (repeat' split) <;> simp

@[simp] theorem State.pending_waitOn (s : State) (h : HostNo) (c : CtxNo) :
    (s.waitOn h c).pending = s.pending := by
  unfold State.waitOn; try dsimp only
  (repeat' split) <;> simp

/-! ## `reply` -/

@[simp] theorem State.ctx_reply (s : State) (h : HostNo) (r : Reply) (d : CtxNo) :
    (s.reply h r).ctx d = s.ctx d := by
  unfold State.reply; try dsimp only
  (repeat' split) <;> simp

@[simp] theorem State.window_reply (s : State) (h : HostNo) (r : Reply) (u : WinNo) :
    (s.reply h r).window u = s.window u := by
  unfold State.reply; try dsimp only
  (repeat' split) <;> simp

@[simp] theorem State.line_reply (s : State) (h : HostNo) (r : Reply) (m : LineNo) :
    (s.reply h r).line m = s.line m := by
  unfold State.reply; try dsimp only
  (repeat' split) <;> simp

@[simp] theorem State.cq_reply (s : State) (h : HostNo) (r : Reply) (g : HostNo) :
    (s.reply h r).cq g = s.cq g := by
  unfold State.reply; try dsimp only
  (repeat' split) <;> simp

@[simp] theorem State.readyList_reply (s : State) (h : HostNo) (r : Reply) (g : HostNo) :
    (s.reply h r).readyList g = s.readyList g := by
  unfold State.reply; try dsimp only
  (repeat' split) <;> simp

@[simp] theorem State.weight_reply (s : State) (h : HostNo) (r : Reply) (g : HostNo) :
    (s.reply h r).weight g = s.weight g := by
  unfold State.reply; try dsimp only
  (repeat' split) <;> simp

@[simp] theorem State.ring_reply (s : State) (h : HostNo) (r : Reply) :
    (s.reply h r).sched.ring = s.sched.ring := by
  unfold State.reply; try dsimp only
  (repeat' split) <;> simp

@[simp] theorem State.pointer_reply (s : State) (h : HostNo) (r : Reply) :
    (s.reply h r).sched.pointer = s.sched.pointer := by
  unfold State.reply; try dsimp only
  (repeat' split) <;> simp

@[simp] theorem State.mark_reply (s : State) (h : HostNo) (r : Reply) :
    (s.reply h r).sched.mark = s.sched.mark := by
  unfold State.reply; try dsimp only
  (repeat' split) <;> simp

@[simp] theorem State.choices_reply (s : State) (h : HostNo) (r : Reply) :
    (s.reply h r).choices = s.choices := by
  unfold State.reply; try dsimp only
  (repeat' split) <;> simp

@[simp] theorem State.pending_reply (s : State) (h : HostNo) (r : Reply) :
    (s.reply h r).pending = s.pending := by
  unfold State.reply; try dsimp only
  (repeat' split) <;> simp

/-! ## `answerWaiter` -/

@[simp] theorem State.ctx_answerWaiter (s : State) (c : CtxNo) (d : CtxNo) :
    (s.answerWaiter c).ctx d = s.ctx d := by
  unfold State.answerWaiter; try dsimp only
  (repeat' split) <;> simp

@[simp] theorem State.window_answerWaiter (s : State) (c : CtxNo) (u : WinNo) :
    (s.answerWaiter c).window u = s.window u := by
  unfold State.answerWaiter; try dsimp only
  (repeat' split) <;> simp

@[simp] theorem State.line_answerWaiter (s : State) (c : CtxNo) (m : LineNo) :
    (s.answerWaiter c).line m = s.line m := by
  unfold State.answerWaiter; try dsimp only
  (repeat' split) <;> simp

@[simp] theorem State.cq_answerWaiter (s : State) (c : CtxNo) (g : HostNo) :
    (s.answerWaiter c).cq g = s.cq g := by
  unfold State.answerWaiter; try dsimp only
  (repeat' split) <;> simp

@[simp] theorem State.readyList_answerWaiter (s : State) (c : CtxNo) (g : HostNo) :
    (s.answerWaiter c).readyList g = s.readyList g := by
  unfold State.answerWaiter; try dsimp only
  (repeat' split) <;> simp

@[simp] theorem State.weight_answerWaiter (s : State) (c : CtxNo) (g : HostNo) :
    (s.answerWaiter c).weight g = s.weight g := by
  unfold State.answerWaiter; try dsimp only
  (repeat' split) <;> simp

@[simp] theorem State.ring_answerWaiter (s : State) (c : CtxNo) :
    (s.answerWaiter c).sched.ring = s.sched.ring := by
  unfold State.answerWaiter; try dsimp only
  (repeat' split) <;> simp

@[simp] theorem State.pointer_answerWaiter (s : State) (c : CtxNo) :
    (s.answerWaiter c).sched.pointer = s.sched.pointer := by
  unfold State.answerWaiter; try dsimp only
  (repeat' split) <;> simp

@[simp] theorem State.mark_answerWaiter (s : State) (c : CtxNo) :
    (s.answerWaiter c).sched.mark = s.sched.mark := by
  unfold State.answerWaiter; try dsimp only
  (repeat' split) <;> simp

@[simp] theorem State.choices_answerWaiter (s : State) (c : CtxNo) :
    (s.answerWaiter c).choices = s.choices := by
  unfold State.answerWaiter; try dsimp only
  (repeat' split) <;> simp

@[simp] theorem State.pending_answerWaiter (s : State) (c : CtxNo) :
    (s.answerWaiter c).pending = s.pending := by
  unfold State.answerWaiter; try dsimp only
  (repeat' split) <;> simp

/-! ## `freeCtx` -/

@[simp] theorem State.port_freeCtx (s : State) (h : HostNo) (c : CtxNo) (g : HostNo) :
    (s.freeCtx h c).port g = s.port g := by
  unfold State.freeCtx; try dsimp only
  (repeat' split) <;> simp

@[simp] theorem State.wd_freeCtx (s : State) (h : HostNo) (c : CtxNo) (g : HostNo) :
    (s.freeCtx h c).wd g = s.wd g := by
  unfold State.freeCtx; try dsimp only
  (repeat' split) <;> simp

@[simp] theorem State.weight_freeCtx (s : State) (h : HostNo) (c : CtxNo) (g : HostNo) :
    (s.freeCtx h c).weight g = s.weight g := by
  unfold State.freeCtx; try dsimp only
  (repeat' split) <;> simp

@[simp] theorem State.engine_freeCtx (s : State) (h : HostNo) (c : CtxNo) :
    (s.freeCtx h c).engine = s.engine := by
  unfold State.freeCtx; try dsimp only
  (repeat' split) <;> simp

@[simp] theorem State.ring_freeCtx (s : State) (h : HostNo) (c : CtxNo) :
    (s.freeCtx h c).sched.ring = s.sched.ring := by
  unfold State.freeCtx; try dsimp only
  (repeat' split) <;> simp

@[simp] theorem State.pointer_freeCtx (s : State) (h : HostNo) (c : CtxNo) :
    (s.freeCtx h c).sched.pointer = s.sched.pointer := by
  unfold State.freeCtx; try dsimp only
  (repeat' split) <;> simp

@[simp] theorem State.mark_freeCtx (s : State) (h : HostNo) (c : CtxNo) :
    (s.freeCtx h c).sched.mark = s.sched.mark := by
  unfold State.freeCtx; try dsimp only
  (repeat' split) <;> simp

@[simp] theorem State.work_freeCtx (s : State) (h : HostNo) (c : CtxNo) :
    (s.freeCtx h c).sched.work = s.sched.work := by
  unfold State.freeCtx; try dsimp only
  (repeat' split) <;> simp

@[simp] theorem State.choices_freeCtx (s : State) (h : HostNo) (c : CtxNo) :
    (s.freeCtx h c).choices = s.choices := by
  unfold State.freeCtx; try dsimp only
  (repeat' split) <;> simp

@[simp] theorem State.pending_freeCtx (s : State) (h : HostNo) (c : CtxNo) :
    (s.freeCtx h c).pending = s.pending := by
  unfold State.freeCtx; try dsimp only
  (repeat' split) <;> simp

/-! ## `freeContexts` -/

@[simp] theorem State.port_freeContexts (s : State) (h : HostNo) (g : HostNo) :
    (s.freeContexts h).port g = s.port g := by
  rw [State.freeContexts]
  refine foldl_keeps _ (·.port g) (fun t c => ?_) _ _
  split <;> simp

@[simp] theorem State.wd_freeContexts (s : State) (h : HostNo) (g : HostNo) :
    (s.freeContexts h).wd g = s.wd g := by
  rw [State.freeContexts]
  refine foldl_keeps _ (·.wd g) (fun t c => ?_) _ _
  split <;> simp

@[simp] theorem State.weight_freeContexts (s : State) (h : HostNo) (g : HostNo) :
    (s.freeContexts h).weight g = s.weight g := by
  rw [State.freeContexts]
  refine foldl_keeps _ (·.weight g) (fun t c => ?_) _ _
  split <;> simp

@[simp] theorem State.engine_freeContexts (s : State) (h : HostNo) :
    (s.freeContexts h).engine = s.engine := by
  rw [State.freeContexts]
  refine foldl_keeps _ (·.engine) (fun t c => ?_) _ _
  split <;> simp

@[simp] theorem State.ring_freeContexts (s : State) (h : HostNo) :
    (s.freeContexts h).sched.ring = s.sched.ring := by
  rw [State.freeContexts]
  refine foldl_keeps _ (·.sched.ring) (fun t c => ?_) _ _
  split <;> simp

@[simp] theorem State.pointer_freeContexts (s : State) (h : HostNo) :
    (s.freeContexts h).sched.pointer = s.sched.pointer := by
  rw [State.freeContexts]
  refine foldl_keeps _ (·.sched.pointer) (fun t c => ?_) _ _
  split <;> simp

@[simp] theorem State.mark_freeContexts (s : State) (h : HostNo) :
    (s.freeContexts h).sched.mark = s.sched.mark := by
  rw [State.freeContexts]
  refine foldl_keeps _ (·.sched.mark) (fun t c => ?_) _ _
  split <;> simp

@[simp] theorem State.work_freeContexts (s : State) (h : HostNo) :
    (s.freeContexts h).sched.work = s.sched.work := by
  rw [State.freeContexts]
  refine foldl_keeps _ (·.sched.work) (fun t c => ?_) _ _
  split <;> simp

@[simp] theorem State.choices_freeContexts (s : State) (h : HostNo) :
    (s.freeContexts h).choices = s.choices := by
  rw [State.freeContexts]
  refine foldl_keeps _ (·.choices) (fun t c => ?_) _ _
  split <;> simp

@[simp] theorem State.pending_freeContexts (s : State) (h : HostNo) :
    (s.freeContexts h).pending = s.pending := by
  rw [State.freeContexts]
  refine foldl_keeps _ (·.pending) (fun t c => ?_) _ _
  split <;> simp

/-! ## `withdrawWindows` -/

@[simp] theorem State.ctx_withdrawWindows (s : State) (h : HostNo) (d : CtxNo) :
    (s.withdrawWindows h).ctx d = s.ctx d := by
  rw [State.withdrawWindows]
  exact foldl_keeps _ (·.ctx d) (fun t w => by simp) _ _

@[simp] theorem State.line_withdrawWindows (s : State) (h : HostNo) (m : LineNo) :
    (s.withdrawWindows h).line m = s.line m := by
  rw [State.withdrawWindows]
  exact foldl_keeps _ (·.line m) (fun t w => by simp) _ _

@[simp] theorem State.port_withdrawWindows (s : State) (h : HostNo) (g : HostNo) :
    (s.withdrawWindows h).port g = s.port g := by
  rw [State.withdrawWindows]
  exact foldl_keeps _ (·.port g) (fun t w => by simp) _ _

@[simp] theorem State.cq_withdrawWindows (s : State) (h : HostNo) (g : HostNo) :
    (s.withdrawWindows h).cq g = s.cq g := by
  rw [State.withdrawWindows]
  exact foldl_keeps _ (·.cq g) (fun t w => by simp) _ _

@[simp] theorem State.wd_withdrawWindows (s : State) (h : HostNo) (g : HostNo) :
    (s.withdrawWindows h).wd g = s.wd g := by
  rw [State.withdrawWindows]
  exact foldl_keeps _ (·.wd g) (fun t w => by simp) _ _

@[simp] theorem State.readyList_withdrawWindows (s : State) (h : HostNo) (g : HostNo) :
    (s.withdrawWindows h).readyList g = s.readyList g := by
  rw [State.withdrawWindows]
  exact foldl_keeps _ (·.readyList g) (fun t w => by simp) _ _

@[simp] theorem State.weight_withdrawWindows (s : State) (h : HostNo) (g : HostNo) :
    (s.withdrawWindows h).weight g = s.weight g := by
  rw [State.withdrawWindows]
  exact foldl_keeps _ (·.weight g) (fun t w => by simp) _ _

@[simp] theorem State.engine_withdrawWindows (s : State) (h : HostNo) :
    (s.withdrawWindows h).engine = s.engine := by
  rw [State.withdrawWindows]
  exact foldl_keeps _ (·.engine) (fun t w => by simp) _ _

@[simp] theorem State.ring_withdrawWindows (s : State) (h : HostNo) :
    (s.withdrawWindows h).sched.ring = s.sched.ring := by
  rw [State.withdrawWindows]
  exact foldl_keeps _ (·.sched.ring) (fun t w => by simp) _ _

@[simp] theorem State.pointer_withdrawWindows (s : State) (h : HostNo) :
    (s.withdrawWindows h).sched.pointer = s.sched.pointer := by
  rw [State.withdrawWindows]
  exact foldl_keeps _ (·.sched.pointer) (fun t w => by simp) _ _

@[simp] theorem State.mark_withdrawWindows (s : State) (h : HostNo) :
    (s.withdrawWindows h).sched.mark = s.sched.mark := by
  rw [State.withdrawWindows]
  exact foldl_keeps _ (·.sched.mark) (fun t w => by simp) _ _

@[simp] theorem State.work_withdrawWindows (s : State) (h : HostNo) :
    (s.withdrawWindows h).sched.work = s.sched.work := by
  rw [State.withdrawWindows]
  exact foldl_keeps _ (·.sched.work) (fun t w => by simp) _ _

@[simp] theorem State.choices_withdrawWindows (s : State) (h : HostNo) :
    (s.withdrawWindows h).choices = s.choices := by
  rw [State.withdrawWindows]
  exact foldl_keeps _ (·.choices) (fun t w => by simp) _ _

@[simp] theorem State.pending_withdrawWindows (s : State) (h : HostNo) :
    (s.withdrawWindows h).pending = s.pending := by
  rw [State.withdrawWindows]
  exact foldl_keeps _ (·.pending) (fun t w => by simp) _ _

/-! ## `emptyQueue` -/

@[simp] theorem State.ctx_emptyQueue (s : State) (h : HostNo) (d : CtxNo) :
    (s.emptyQueue h).ctx d = s.ctx d := rfl

@[simp] theorem State.window_emptyQueue (s : State) (h : HostNo) (u : WinNo) :
    (s.emptyQueue h).window u = s.window u := rfl

@[simp] theorem State.line_emptyQueue (s : State) (h : HostNo) (m : LineNo) :
    (s.emptyQueue h).line m = s.line m := rfl

@[simp] theorem State.port_emptyQueue (s : State) (h : HostNo) (g : HostNo) :
    (s.emptyQueue h).port g = s.port g := rfl

@[simp] theorem State.wd_emptyQueue (s : State) (h : HostNo) (g : HostNo) :
    (s.emptyQueue h).wd g = s.wd g := rfl

@[simp] theorem State.readyList_emptyQueue (s : State) (h : HostNo) (g : HostNo) :
    (s.emptyQueue h).readyList g = s.readyList g := rfl

@[simp] theorem State.weight_emptyQueue (s : State) (h : HostNo) (g : HostNo) :
    (s.emptyQueue h).weight g = s.weight g := rfl

@[simp] theorem State.engine_emptyQueue (s : State) (h : HostNo) :
    (s.emptyQueue h).engine = s.engine := rfl

@[simp] theorem State.ring_emptyQueue (s : State) (h : HostNo) :
    (s.emptyQueue h).sched.ring = s.sched.ring := rfl

@[simp] theorem State.pointer_emptyQueue (s : State) (h : HostNo) :
    (s.emptyQueue h).sched.pointer = s.sched.pointer := rfl

@[simp] theorem State.mark_emptyQueue (s : State) (h : HostNo) :
    (s.emptyQueue h).sched.mark = s.sched.mark := rfl

@[simp] theorem State.work_emptyQueue (s : State) (h : HostNo) :
    (s.emptyQueue h).sched.work = s.sched.work := rfl

@[simp] theorem State.choices_emptyQueue (s : State) (h : HostNo) :
    (s.emptyQueue h).choices = s.choices := rfl

@[simp] theorem State.pending_emptyQueue (s : State) (h : HostNo) :
    (s.emptyQueue h).pending = s.pending := rfl

/-! ## `resetWeight` -/

@[simp] theorem State.ctx_resetWeight (s : State) (h : HostNo) (d : CtxNo) :
    (s.resetWeight h).ctx d = s.ctx d := by
  simp [State.resetWeight]

@[simp] theorem State.window_resetWeight (s : State) (h : HostNo) (u : WinNo) :
    (s.resetWeight h).window u = s.window u := by
  simp [State.resetWeight]

@[simp] theorem State.line_resetWeight (s : State) (h : HostNo) (m : LineNo) :
    (s.resetWeight h).line m = s.line m := by
  simp [State.resetWeight]

@[simp] theorem State.port_resetWeight (s : State) (h : HostNo) (g : HostNo) :
    (s.resetWeight h).port g = s.port g := by
  simp [State.resetWeight]

@[simp] theorem State.cq_resetWeight (s : State) (h : HostNo) (g : HostNo) :
    (s.resetWeight h).cq g = s.cq g := by
  simp [State.resetWeight]

@[simp] theorem State.wd_resetWeight (s : State) (h : HostNo) (g : HostNo) :
    (s.resetWeight h).wd g = s.wd g := by
  simp [State.resetWeight]

@[simp] theorem State.readyList_resetWeight (s : State) (h : HostNo) (g : HostNo) :
    (s.resetWeight h).readyList g = s.readyList g := by
  simp [State.resetWeight]

@[simp] theorem State.engine_resetWeight (s : State) (h : HostNo) :
    (s.resetWeight h).engine = s.engine := by
  simp [State.resetWeight]

@[simp] theorem State.work_resetWeight (s : State) (h : HostNo) :
    (s.resetWeight h).sched.work = s.sched.work := by
  simp [State.resetWeight]

@[simp] theorem State.choices_resetWeight (s : State) (h : HostNo) :
    (s.resetWeight h).choices = s.choices := by
  simp [State.resetWeight]

@[simp] theorem State.pending_resetWeight (s : State) (h : HostNo) :
    (s.resetWeight h).pending = s.pending := by
  simp [State.resetWeight]

/-! ## `completeWithdrawal` -/

@[simp] theorem State.ctx_completeWithdrawal (s : State) (h : HostNo) (d : CtxNo) :
    (s.completeWithdrawal h).ctx d = s.ctx d := by
  unfold State.completeWithdrawal; try dsimp only
  (repeat' split) <;> simp

@[simp] theorem State.window_completeWithdrawal (s : State) (h : HostNo) (u : WinNo) :
    (s.completeWithdrawal h).window u = s.window u := by
  unfold State.completeWithdrawal; try dsimp only
  (repeat' split) <;> simp

@[simp] theorem State.line_completeWithdrawal (s : State) (h : HostNo) (m : LineNo) :
    (s.completeWithdrawal h).line m = s.line m := by
  unfold State.completeWithdrawal; try dsimp only
  (repeat' split) <;> simp

@[simp] theorem State.cq_completeWithdrawal (s : State) (h : HostNo) (g : HostNo) :
    (s.completeWithdrawal h).cq g = s.cq g := by
  unfold State.completeWithdrawal; try dsimp only
  (repeat' split) <;> simp

@[simp] theorem State.readyList_completeWithdrawal (s : State) (h : HostNo) (g : HostNo) :
    (s.completeWithdrawal h).readyList g = s.readyList g := by
  unfold State.completeWithdrawal; try dsimp only
  (repeat' split) <;> simp

@[simp] theorem State.weight_completeWithdrawal (s : State) (h : HostNo) (g : HostNo) :
    (s.completeWithdrawal h).weight g = s.weight g := by
  unfold State.completeWithdrawal; try dsimp only
  (repeat' split) <;> simp

@[simp] theorem State.engine_completeWithdrawal (s : State) (h : HostNo) :
    (s.completeWithdrawal h).engine = s.engine := by
  unfold State.completeWithdrawal; try dsimp only
  (repeat' split) <;> simp

@[simp] theorem State.ring_completeWithdrawal (s : State) (h : HostNo) :
    (s.completeWithdrawal h).sched.ring = s.sched.ring := by
  unfold State.completeWithdrawal; try dsimp only
  (repeat' split) <;> simp

@[simp] theorem State.pointer_completeWithdrawal (s : State) (h : HostNo) :
    (s.completeWithdrawal h).sched.pointer = s.sched.pointer := by
  unfold State.completeWithdrawal; try dsimp only
  (repeat' split) <;> simp

@[simp] theorem State.mark_completeWithdrawal (s : State) (h : HostNo) :
    (s.completeWithdrawal h).sched.mark = s.sched.mark := by
  unfold State.completeWithdrawal; try dsimp only
  (repeat' split) <;> simp

@[simp] theorem State.work_completeWithdrawal (s : State) (h : HostNo) :
    (s.completeWithdrawal h).sched.work = s.sched.work := by
  unfold State.completeWithdrawal; try dsimp only
  (repeat' split) <;> simp

@[simp] theorem State.choices_completeWithdrawal (s : State) (h : HostNo) :
    (s.completeWithdrawal h).choices = s.choices := by
  unfold State.completeWithdrawal; try dsimp only
  (repeat' split) <;> simp

@[simp] theorem State.pending_completeWithdrawal (s : State) (h : HostNo) :
    (s.completeWithdrawal h).pending = s.pending := by
  unfold State.completeWithdrawal; try dsimp only
  (repeat' split) <;> simp

end Sys2Proof.Machine
end

