-- ==== Sys2Proof/Laws/EngineFrames.lean ====
section
/-! SUPPORT. What each operation of Machine/Engine.lean leaves alone: one lemma per operation and accessor it does not
write. -/

namespace Sys2Proof.Machine

/-! ## `setService` -/

@[simp] theorem State.ctx_setService (s : State) (v : Service) (d : CtxNo) :
    (s.setService v).ctx d = s.ctx d := rfl

@[simp] theorem State.window_setService (s : State) (v : Service) (u : WinNo) :
    (s.setService v).window u = s.window u := rfl

@[simp] theorem State.line_setService (s : State) (v : Service) (m : LineNo) :
    (s.setService v).line m = s.line m := rfl

@[simp] theorem State.port_setService (s : State) (v : Service) (g : HostNo) :
    (s.setService v).port g = s.port g := rfl

@[simp] theorem State.cq_setService (s : State) (v : Service) (g : HostNo) :
    (s.setService v).cq g = s.cq g := rfl

@[simp] theorem State.wd_setService (s : State) (v : Service) (g : HostNo) :
    (s.setService v).wd g = s.wd g := rfl

@[simp] theorem State.readyList_setService (s : State) (v : Service) (g : HostNo) :
    (s.setService v).readyList g = s.readyList g := rfl

@[simp] theorem State.weight_setService (s : State) (v : Service) (g : HostNo) :
    (s.setService v).weight g = s.weight g := rfl

@[simp] theorem State.ring_setService (s : State) (v : Service) :
    (s.setService v).sched.ring = s.sched.ring := rfl

@[simp] theorem State.pointer_setService (s : State) (v : Service) :
    (s.setService v).sched.pointer = s.sched.pointer := rfl

@[simp] theorem State.mark_setService (s : State) (v : Service) :
    (s.setService v).sched.mark = s.sched.mark := rfl

@[simp] theorem State.work_setService (s : State) (v : Service) :
    (s.setService v).sched.work = s.sched.work := rfl

@[simp] theorem State.choices_setService (s : State) (v : Service) :
    (s.setService v).choices = s.choices := rfl

@[simp] theorem State.pending_setService (s : State) (v : Service) :
    (s.setService v).pending = s.pending := rfl

/-! ## `setEngState` -/

@[simp] theorem State.ctx_setEngState (s : State) (e : EngState) (d : CtxNo) :
    (s.setEngState e).ctx d = s.ctx d := rfl

@[simp] theorem State.window_setEngState (s : State) (e : EngState) (u : WinNo) :
    (s.setEngState e).window u = s.window u := rfl

@[simp] theorem State.line_setEngState (s : State) (e : EngState) (m : LineNo) :
    (s.setEngState e).line m = s.line m := rfl

@[simp] theorem State.port_setEngState (s : State) (e : EngState) (g : HostNo) :
    (s.setEngState e).port g = s.port g := rfl

@[simp] theorem State.cq_setEngState (s : State) (e : EngState) (g : HostNo) :
    (s.setEngState e).cq g = s.cq g := rfl

@[simp] theorem State.wd_setEngState (s : State) (e : EngState) (g : HostNo) :
    (s.setEngState e).wd g = s.wd g := rfl

@[simp] theorem State.readyList_setEngState (s : State) (e : EngState) (g : HostNo) :
    (s.setEngState e).readyList g = s.readyList g := rfl

@[simp] theorem State.weight_setEngState (s : State) (e : EngState) (g : HostNo) :
    (s.setEngState e).weight g = s.weight g := rfl

@[simp] theorem State.ring_setEngState (s : State) (e : EngState) :
    (s.setEngState e).sched.ring = s.sched.ring := rfl

@[simp] theorem State.pointer_setEngState (s : State) (e : EngState) :
    (s.setEngState e).sched.pointer = s.sched.pointer := rfl

@[simp] theorem State.mark_setEngState (s : State) (e : EngState) :
    (s.setEngState e).sched.mark = s.sched.mark := rfl

@[simp] theorem State.work_setEngState (s : State) (e : EngState) :
    (s.setEngState e).sched.work = s.sched.work := rfl

@[simp] theorem State.choices_setEngState (s : State) (e : EngState) :
    (s.setEngState e).choices = s.choices := rfl

@[simp] theorem State.pending_setEngState (s : State) (e : EngState) :
    (s.setEngState e).pending = s.pending := rfl

/-! ## `issueBeat` -/

@[simp] theorem State.ctx_issueBeat (s : State) (d : CtxNo) :
    s.issueBeat.ctx d = s.ctx d := by
  unfold State.issueBeat; try dsimp only
  (repeat' split) <;> simp

@[simp] theorem State.window_issueBeat (s : State) (u : WinNo) :
    s.issueBeat.window u = s.window u := by
  unfold State.issueBeat; try dsimp only
  (repeat' split) <;> simp

@[simp] theorem State.line_issueBeat (s : State) (m : LineNo) :
    s.issueBeat.line m = s.line m := by
  unfold State.issueBeat; try dsimp only
  (repeat' split) <;> simp

@[simp] theorem State.port_issueBeat (s : State) (g : HostNo) :
    s.issueBeat.port g = s.port g := by
  unfold State.issueBeat; try dsimp only
  (repeat' split) <;> simp

@[simp] theorem State.cq_issueBeat (s : State) (g : HostNo) :
    s.issueBeat.cq g = s.cq g := by
  unfold State.issueBeat; try dsimp only
  (repeat' split) <;> simp

@[simp] theorem State.wd_issueBeat (s : State) (g : HostNo) :
    s.issueBeat.wd g = s.wd g := by
  unfold State.issueBeat; try dsimp only
  (repeat' split) <;> simp

@[simp] theorem State.readyList_issueBeat (s : State) (g : HostNo) :
    s.issueBeat.readyList g = s.readyList g := by
  unfold State.issueBeat; try dsimp only
  (repeat' split) <;> simp

@[simp] theorem State.weight_issueBeat (s : State) (g : HostNo) :
    s.issueBeat.weight g = s.weight g := by
  unfold State.issueBeat; try dsimp only
  (repeat' split) <;> simp

@[simp] theorem State.ring_issueBeat (s : State) :
    s.issueBeat.sched.ring = s.sched.ring := by
  unfold State.issueBeat; try dsimp only
  (repeat' split) <;> simp

@[simp] theorem State.pointer_issueBeat (s : State) :
    s.issueBeat.sched.pointer = s.sched.pointer := by
  unfold State.issueBeat; try dsimp only
  (repeat' split) <;> simp

@[simp] theorem State.mark_issueBeat (s : State) :
    s.issueBeat.sched.mark = s.sched.mark := by
  unfold State.issueBeat; try dsimp only
  (repeat' split) <;> simp

@[simp] theorem State.work_issueBeat (s : State) :
    s.issueBeat.sched.work = s.sched.work := by
  unfold State.issueBeat; try dsimp only
  (repeat' split) <;> simp

@[simp] theorem State.choices_issueBeat (s : State) :
    s.issueBeat.choices = s.choices := by
  unfold State.issueBeat; try dsimp only
  (repeat' split) <;> simp

@[simp] theorem State.pending_issueBeat (s : State) :
    s.issueBeat.pending = s.pending := by
  unfold State.issueBeat; try dsimp only
  (repeat' split) <;> simp

/-! ## `beginService` -/

@[simp] theorem State.window_beginService (s : State) (slot : Nat) (c : CtxNo) (u : WinNo) :
    (s.beginService slot c).window u = s.window u := by
  unfold State.beginService; try dsimp only
  (repeat' split) <;> simp

@[simp] theorem State.port_beginService (s : State) (slot : Nat) (c : CtxNo) (g : HostNo) :
    (s.beginService slot c).port g = s.port g := by
  unfold State.beginService; try dsimp only
  (repeat' split) <;> simp

@[simp] theorem State.cq_beginService (s : State) (slot : Nat) (c : CtxNo) (g : HostNo) :
    (s.beginService slot c).cq g = s.cq g := by
  unfold State.beginService; try dsimp only
  (repeat' split) <;> simp

@[simp] theorem State.wd_beginService (s : State) (slot : Nat) (c : CtxNo) (g : HostNo) :
    (s.beginService slot c).wd g = s.wd g := by
  unfold State.beginService; try dsimp only
  (repeat' split) <;> simp

@[simp] theorem State.weight_beginService (s : State) (slot : Nat) (c : CtxNo) (g : HostNo) :
    (s.beginService slot c).weight g = s.weight g := by
  unfold State.beginService; try dsimp only
  (repeat' split) <;> simp

@[simp] theorem State.ring_beginService (s : State) (slot : Nat) (c : CtxNo) :
    (s.beginService slot c).sched.ring = s.sched.ring := by
  unfold State.beginService; try dsimp only
  (repeat' split) <;> simp

@[simp] theorem State.pointer_beginService (s : State) (slot : Nat) (c : CtxNo) :
    (s.beginService slot c).sched.pointer = s.sched.pointer := by
  unfold State.beginService; try dsimp only
  (repeat' split) <;> simp

@[simp] theorem State.work_beginService (s : State) (slot : Nat) (c : CtxNo) :
    (s.beginService slot c).sched.work = s.sched.work := by
  unfold State.beginService; try dsimp only
  (repeat' split) <;> simp

@[simp] theorem State.choices_beginService (s : State) (slot : Nat) (c : CtxNo) :
    (s.beginService slot c).choices = s.choices := by
  unfold State.beginService; try dsimp only
  (repeat' split) <;> simp

@[simp] theorem State.pending_beginService (s : State) (slot : Nat) (c : CtxNo) :
    (s.beginService slot c).pending = s.pending := by
  unfold State.beginService; try dsimp only
  (repeat' split) <;> simp

/-! ## `releaseBus` -/

@[simp] theorem State.ctx_releaseBus (s : State) (d : CtxNo) :
    s.releaseBus.ctx d = s.ctx d := by
  unfold State.releaseBus; try dsimp only
  simp

@[simp] theorem State.window_releaseBus (s : State) (u : WinNo) :
    s.releaseBus.window u = s.window u := by
  unfold State.releaseBus; try dsimp only
  simp

@[simp] theorem State.line_releaseBus (s : State) (m : LineNo) :
    s.releaseBus.line m = s.line m := by
  unfold State.releaseBus; try dsimp only
  simp

@[simp] theorem State.port_releaseBus (s : State) (g : HostNo) :
    s.releaseBus.port g = s.port g := by
  unfold State.releaseBus; try dsimp only
  simp

@[simp] theorem State.cq_releaseBus (s : State) (g : HostNo) :
    s.releaseBus.cq g = s.cq g := by
  unfold State.releaseBus; try dsimp only
  simp

@[simp] theorem State.wd_releaseBus (s : State) (g : HostNo) :
    s.releaseBus.wd g = s.wd g := by
  unfold State.releaseBus; try dsimp only
  simp

@[simp] theorem State.readyList_releaseBus (s : State) (g : HostNo) :
    s.releaseBus.readyList g = s.readyList g := by
  unfold State.releaseBus; try dsimp only
  simp

@[simp] theorem State.weight_releaseBus (s : State) (g : HostNo) :
    s.releaseBus.weight g = s.weight g := by
  unfold State.releaseBus; try dsimp only
  simp

@[simp] theorem State.ring_releaseBus (s : State) :
    s.releaseBus.sched.ring = s.sched.ring := by
  unfold State.releaseBus; try dsimp only
  simp

@[simp] theorem State.pointer_releaseBus (s : State) :
    s.releaseBus.sched.pointer = s.sched.pointer := by
  unfold State.releaseBus; try dsimp only
  simp

@[simp] theorem State.mark_releaseBus (s : State) :
    s.releaseBus.sched.mark = s.sched.mark := by
  unfold State.releaseBus; try dsimp only
  simp

@[simp] theorem State.choices_releaseBus (s : State) :
    s.releaseBus.choices = s.choices := by
  unfold State.releaseBus; try dsimp only
  simp

@[simp] theorem State.pending_releaseBus (s : State) :
    s.releaseBus.pending = s.pending := by
  unfold State.releaseBus; try dsimp only
  simp

/-! ## `selectNow` -/

@[simp] theorem State.window_selectNow (s : State) (strobe : Bool) (u : WinNo) :
    (s.selectNow strobe).window u = s.window u := by
  unfold State.selectNow; try dsimp only
  (repeat' split) <;> simp

@[simp] theorem State.port_selectNow (s : State) (strobe : Bool) (g : HostNo) :
    (s.selectNow strobe).port g = s.port g := by
  unfold State.selectNow; try dsimp only
  (repeat' split) <;> simp

@[simp] theorem State.cq_selectNow (s : State) (strobe : Bool) (g : HostNo) :
    (s.selectNow strobe).cq g = s.cq g := by
  unfold State.selectNow; try dsimp only
  (repeat' split) <;> simp

@[simp] theorem State.wd_selectNow (s : State) (strobe : Bool) (g : HostNo) :
    (s.selectNow strobe).wd g = s.wd g := by
  unfold State.selectNow; try dsimp only
  (repeat' split) <;> simp

@[simp] theorem State.weight_selectNow (s : State) (strobe : Bool) (g : HostNo) :
    (s.selectNow strobe).weight g = s.weight g := by
  unfold State.selectNow; try dsimp only
  (repeat' split) <;> simp

@[simp] theorem State.ring_selectNow (s : State) (strobe : Bool) :
    (s.selectNow strobe).sched.ring = s.sched.ring := by
  unfold State.selectNow; try dsimp only
  (repeat' split) <;> simp

@[simp] theorem State.pointer_selectNow (s : State) (strobe : Bool) :
    (s.selectNow strobe).sched.pointer = s.sched.pointer := by
  unfold State.selectNow; try dsimp only
  (repeat' split) <;> simp

@[simp] theorem State.choices_selectNow (s : State) (strobe : Bool) :
    (s.selectNow strobe).choices = s.choices := by
  unfold State.selectNow; try dsimp only
  (repeat' split) <;> simp

@[simp] theorem State.pending_selectNow (s : State) (strobe : Bool) :
    (s.selectNow strobe).pending = s.pending := by
  unfold State.selectNow; try dsimp only
  (repeat' split) <;> simp

/-! ## `select` -/

@[simp] theorem State.window_select (s : State) (u : WinNo) :
    s.select.window u = s.window u := by
  unfold State.select; try dsimp only
  (repeat' split) <;> simp

@[simp] theorem State.port_select (s : State) (g : HostNo) :
    s.select.port g = s.port g := by
  unfold State.select; try dsimp only
  (repeat' split) <;> simp

@[simp] theorem State.cq_select (s : State) (g : HostNo) :
    s.select.cq g = s.cq g := by
  unfold State.select; try dsimp only
  (repeat' split) <;> simp

@[simp] theorem State.wd_select (s : State) (g : HostNo) :
    s.select.wd g = s.wd g := by
  unfold State.select; try dsimp only
  (repeat' split) <;> simp

@[simp] theorem State.weight_select (s : State) (g : HostNo) :
    s.select.weight g = s.weight g := by
  unfold State.select; try dsimp only
  (repeat' split) <;> simp

@[simp] theorem State.ring_select (s : State) :
    s.select.sched.ring = s.sched.ring := by
  unfold State.select; try dsimp only
  (repeat' split) <;> simp

@[simp] theorem State.pointer_select (s : State) :
    s.select.sched.pointer = s.sched.pointer := by
  unfold State.select; try dsimp only
  (repeat' split) <;> simp

/-- At most one free choice is made (log 7). -/
theorem State.choices_select (s : State) :
    s.choices ≤ s.select.choices ∧ s.select.choices ≤ s.choices + 1 := by
  unfold State.select
  (repeat' split) <;> simp

@[simp] theorem State.pending_select (s : State) :
    s.select.pending = s.pending := by
  unfold State.select; try dsimp only
  (repeat' split) <;> simp

/-! ## `takeGrant` -/

@[simp] theorem State.window_takeGrant (s : State) (u : WinNo) :
    s.takeGrant.window u = s.window u := by
  unfold State.takeGrant; try dsimp only
  (repeat' split) <;> simp

@[simp] theorem State.port_takeGrant (s : State) (g : HostNo) :
    s.takeGrant.port g = s.port g := by
  unfold State.takeGrant; try dsimp only
  (repeat' split) <;> simp

@[simp] theorem State.cq_takeGrant (s : State) (g : HostNo) :
    s.takeGrant.cq g = s.cq g := by
  unfold State.takeGrant; try dsimp only
  (repeat' split) <;> simp

@[simp] theorem State.wd_takeGrant (s : State) (g : HostNo) :
    s.takeGrant.wd g = s.wd g := by
  unfold State.takeGrant; try dsimp only
  (repeat' split) <;> simp

@[simp] theorem State.weight_takeGrant (s : State) (g : HostNo) :
    s.takeGrant.weight g = s.weight g := by
  unfold State.takeGrant; try dsimp only
  (repeat' split) <;> simp

@[simp] theorem State.ring_takeGrant (s : State) :
    s.takeGrant.sched.ring = s.sched.ring := by
  unfold State.takeGrant; try dsimp only
  (repeat' split) <;> simp

@[simp] theorem State.pointer_takeGrant (s : State) :
    s.takeGrant.sched.pointer = s.sched.pointer := by
  unfold State.takeGrant; try dsimp only
  (repeat' split) <;> simp

/-- At most one free choice is made (log 7). -/
theorem State.choices_takeGrant (s : State) :
    s.choices ≤ s.takeGrant.choices ∧ s.takeGrant.choices ≤ s.choices + 1 := by
  have k := State.choices_select (s.setEngine { s.engine with lown := true })
  unfold State.takeGrant; try dsimp only
  (repeat' split) <;> simp_all

@[simp] theorem State.pending_takeGrant (s : State) :
    s.takeGrant.pending = s.pending := by
  unfold State.takeGrant; try dsimp only
  (repeat' split) <;> simp

/-! ## `leaveBus` -/

@[simp] theorem State.window_leaveBus (s : State) (u : WinNo) :
    s.leaveBus.window u = s.window u := by
  unfold State.leaveBus; try dsimp only
  (repeat' split) <;> simp

@[simp] theorem State.port_leaveBus (s : State) (g : HostNo) :
    s.leaveBus.port g = s.port g := by
  unfold State.leaveBus; try dsimp only
  (repeat' split) <;> simp

@[simp] theorem State.cq_leaveBus (s : State) (g : HostNo) :
    s.leaveBus.cq g = s.cq g := by
  unfold State.leaveBus; try dsimp only
  (repeat' split) <;> simp

@[simp] theorem State.wd_leaveBus (s : State) (g : HostNo) :
    s.leaveBus.wd g = s.wd g := by
  unfold State.leaveBus; try dsimp only
  (repeat' split) <;> simp

@[simp] theorem State.weight_leaveBus (s : State) (g : HostNo) :
    s.leaveBus.weight g = s.weight g := by
  unfold State.leaveBus; try dsimp only
  (repeat' split) <;> simp

@[simp] theorem State.ring_leaveBus (s : State) :
    s.leaveBus.sched.ring = s.sched.ring := by
  unfold State.leaveBus; try dsimp only
  (repeat' split) <;> simp

@[simp] theorem State.pointer_leaveBus (s : State) :
    s.leaveBus.sched.pointer = s.sched.pointer := by
  unfold State.leaveBus; try dsimp only
  (repeat' split) <;> simp

/-- At most one free choice is made (log 7). -/
theorem State.choices_leaveBus (s : State) :
    s.choices ≤ s.leaveBus.choices ∧ s.leaveBus.choices ≤ s.choices + 1 := by
  unfold State.leaveBus; try dsimp only
  split
  · have k := State.choices_takeGrant (s.setEngine { s.engine with
      state := .asking, beat := none, lown := false, lreq := true, losing := none }).reevaluate
    simpa using k
  · simp

@[simp] theorem State.pending_leaveBus (s : State) :
    s.leaveBus.pending = s.pending := by
  unfold State.leaveBus; try dsimp only
  (repeat' split) <;> simp

/-! ## `dropService` -/

@[simp] theorem State.ctx_dropService (s : State) (d : CtxNo) :
    s.dropService.ctx d = s.ctx d := rfl

@[simp] theorem State.window_dropService (s : State) (u : WinNo) :
    s.dropService.window u = s.window u := rfl

@[simp] theorem State.line_dropService (s : State) (m : LineNo) :
    s.dropService.line m = s.line m := rfl

@[simp] theorem State.port_dropService (s : State) (g : HostNo) :
    s.dropService.port g = s.port g := rfl

@[simp] theorem State.cq_dropService (s : State) (g : HostNo) :
    s.dropService.cq g = s.cq g := rfl

@[simp] theorem State.wd_dropService (s : State) (g : HostNo) :
    s.dropService.wd g = s.wd g := rfl

@[simp] theorem State.readyList_dropService (s : State) (g : HostNo) :
    s.dropService.readyList g = s.readyList g := rfl

@[simp] theorem State.weight_dropService (s : State) (g : HostNo) :
    s.dropService.weight g = s.weight g := rfl

@[simp] theorem State.ring_dropService (s : State) :
    s.dropService.sched.ring = s.sched.ring := rfl

@[simp] theorem State.pointer_dropService (s : State) :
    s.dropService.sched.pointer = s.sched.pointer := rfl

@[simp] theorem State.mark_dropService (s : State) :
    s.dropService.sched.mark = s.sched.mark := rfl

@[simp] theorem State.work_dropService (s : State) :
    s.dropService.sched.work = s.sched.work := rfl

@[simp] theorem State.choices_dropService (s : State) :
    s.dropService.choices = s.choices := rfl

@[simp] theorem State.pending_dropService (s : State) :
    s.dropService.pending = s.pending := rfl

/-! ## `placeCompleted` -/

@[simp] theorem State.window_placeCompleted (s : State) (c : CtxNo) (u : WinNo) :
    (s.placeCompleted c).window u = s.window u := by
  unfold State.placeCompleted; try dsimp only
  (repeat' split) <;> simp

@[simp] theorem State.line_placeCompleted (s : State) (c : CtxNo) (m : LineNo) :
    (s.placeCompleted c).line m = s.line m := by
  unfold State.placeCompleted; try dsimp only
  (repeat' split) <;> simp

@[simp] theorem State.port_placeCompleted (s : State) (c : CtxNo) (g : HostNo) :
    (s.placeCompleted c).port g = s.port g := by
  unfold State.placeCompleted; try dsimp only
  (repeat' split) <;> simp

@[simp] theorem State.cq_placeCompleted (s : State) (c : CtxNo) (g : HostNo) :
    (s.placeCompleted c).cq g = s.cq g := by
  unfold State.placeCompleted; try dsimp only
  (repeat' split) <;> simp

@[simp] theorem State.wd_placeCompleted (s : State) (c : CtxNo) (g : HostNo) :
    (s.placeCompleted c).wd g = s.wd g := by
  unfold State.placeCompleted; try dsimp only
  (repeat' split) <;> simp

@[simp] theorem State.weight_placeCompleted (s : State) (c : CtxNo) (g : HostNo) :
    (s.placeCompleted c).weight g = s.weight g := by
  unfold State.placeCompleted; try dsimp only
  (repeat' split) <;> simp

@[simp] theorem State.engine_placeCompleted (s : State) (c : CtxNo) :
    (s.placeCompleted c).engine = s.engine := by
  unfold State.placeCompleted; try dsimp only
  (repeat' split) <;> simp

@[simp] theorem State.ring_placeCompleted (s : State) (c : CtxNo) :
    (s.placeCompleted c).sched.ring = s.sched.ring := by
  unfold State.placeCompleted; try dsimp only
  (repeat' split) <;> simp

@[simp] theorem State.pointer_placeCompleted (s : State) (c : CtxNo) :
    (s.placeCompleted c).sched.pointer = s.sched.pointer := by
  unfold State.placeCompleted; try dsimp only
  (repeat' split) <;> simp

@[simp] theorem State.mark_placeCompleted (s : State) (c : CtxNo) :
    (s.placeCompleted c).sched.mark = s.sched.mark := by
  unfold State.placeCompleted; try dsimp only
  (repeat' split) <;> simp

@[simp] theorem State.work_placeCompleted (s : State) (c : CtxNo) :
    (s.placeCompleted c).sched.work = s.sched.work := by
  unfold State.placeCompleted; try dsimp only
  (repeat' split) <;> simp

@[simp] theorem State.choices_placeCompleted (s : State) (c : CtxNo) :
    (s.placeCompleted c).choices = s.choices := by
  unfold State.placeCompleted; try dsimp only
  (repeat' split) <;> simp

@[simp] theorem State.pending_placeCompleted (s : State) (c : CtxNo) :
    (s.placeCompleted c).pending = s.pending := by
  unfold State.placeCompleted; try dsimp only
  (repeat' split) <;> simp

/-! ## `placeYielded` -/

@[simp] theorem State.window_placeYielded (s : State) (c : CtxNo) (u : WinNo) :
    (s.placeYielded c).window u = s.window u := by
  unfold State.placeYielded; try dsimp only
  (repeat' split) <;> simp

@[simp] theorem State.line_placeYielded (s : State) (c : CtxNo) (m : LineNo) :
    (s.placeYielded c).line m = s.line m := by
  unfold State.placeYielded; try dsimp only
  (repeat' split) <;> simp

@[simp] theorem State.port_placeYielded (s : State) (c : CtxNo) (g : HostNo) :
    (s.placeYielded c).port g = s.port g := by
  unfold State.placeYielded; try dsimp only
  (repeat' split) <;> simp

@[simp] theorem State.cq_placeYielded (s : State) (c : CtxNo) (g : HostNo) :
    (s.placeYielded c).cq g = s.cq g := by
  unfold State.placeYielded; try dsimp only
  (repeat' split) <;> simp

@[simp] theorem State.wd_placeYielded (s : State) (c : CtxNo) (g : HostNo) :
    (s.placeYielded c).wd g = s.wd g := by
  unfold State.placeYielded; try dsimp only
  (repeat' split) <;> simp

@[simp] theorem State.weight_placeYielded (s : State) (c : CtxNo) (g : HostNo) :
    (s.placeYielded c).weight g = s.weight g := by
  unfold State.placeYielded; try dsimp only
  (repeat' split) <;> simp

@[simp] theorem State.engine_placeYielded (s : State) (c : CtxNo) :
    (s.placeYielded c).engine = s.engine := by
  unfold State.placeYielded; try dsimp only
  (repeat' split) <;> simp

@[simp] theorem State.ring_placeYielded (s : State) (c : CtxNo) :
    (s.placeYielded c).sched.ring = s.sched.ring := by
  unfold State.placeYielded; try dsimp only
  (repeat' split) <;> simp

@[simp] theorem State.pointer_placeYielded (s : State) (c : CtxNo) :
    (s.placeYielded c).sched.pointer = s.sched.pointer := by
  unfold State.placeYielded; try dsimp only
  (repeat' split) <;> simp

@[simp] theorem State.mark_placeYielded (s : State) (c : CtxNo) :
    (s.placeYielded c).sched.mark = s.sched.mark := by
  unfold State.placeYielded; try dsimp only
  (repeat' split) <;> simp

@[simp] theorem State.work_placeYielded (s : State) (c : CtxNo) :
    (s.placeYielded c).sched.work = s.sched.work := by
  unfold State.placeYielded; try dsimp only
  (repeat' split) <;> simp

@[simp] theorem State.choices_placeYielded (s : State) (c : CtxNo) :
    (s.placeYielded c).choices = s.choices := by
  unfold State.placeYielded; try dsimp only
  (repeat' split) <;> simp

@[simp] theorem State.pending_placeYielded (s : State) (c : CtxNo) :
    (s.placeYielded c).pending = s.pending := by
  unfold State.placeYielded; try dsimp only
  (repeat' split) <;> simp

/-! ## `endRun` -/

@[simp] theorem State.weight_endRun (s : State) (c : CtxNo) (e : RunEnd) (g : HostNo) :
    (s.endRun c e).weight g = s.weight g := by
  unfold State.endRun; try dsimp only
  (repeat' split) <;> simp

@[simp] theorem State.ring_endRun (s : State) (c : CtxNo) (e : RunEnd) :
    (s.endRun c e).sched.ring = s.sched.ring := by
  unfold State.endRun; try dsimp only
  (repeat' split) <;> simp

@[simp] theorem State.pointer_endRun (s : State) (c : CtxNo) (e : RunEnd) :
    (s.endRun c e).sched.pointer = s.sched.pointer := by
  unfold State.endRun; try dsimp only
  (repeat' split) <;> simp

@[simp] theorem State.mark_endRun (s : State) (c : CtxNo) (e : RunEnd) :
    (s.endRun c e).sched.mark = s.sched.mark := by
  unfold State.endRun; try dsimp only
  (repeat' split) <;> simp

@[simp] theorem State.choices_endRun (s : State) (c : CtxNo) (e : RunEnd) :
    (s.endRun c e).choices = s.choices := by
  unfold State.endRun; try dsimp only
  (repeat' split) <;> simp

@[simp] theorem State.pending_endRun (s : State) (c : CtxNo) (e : RunEnd) :
    (s.endRun c e).pending = s.pending := by
  unfold State.endRun; try dsimp only
  (repeat' split) <;> simp

/-! ## `afterService` -/

@[simp] theorem State.window_afterService (s : State) (u : WinNo) :
    s.afterService.window u = s.window u := by
  unfold State.afterService; try dsimp only
  (repeat' split) <;> simp

@[simp] theorem State.port_afterService (s : State) (g : HostNo) :
    s.afterService.port g = s.port g := by
  unfold State.afterService; try dsimp only
  (repeat' split) <;> simp

@[simp] theorem State.cq_afterService (s : State) (g : HostNo) :
    s.afterService.cq g = s.cq g := by
  unfold State.afterService; try dsimp only
  (repeat' split) <;> simp

@[simp] theorem State.wd_afterService (s : State) (g : HostNo) :
    s.afterService.wd g = s.wd g := by
  unfold State.afterService; try dsimp only
  (repeat' split) <;> simp

@[simp] theorem State.weight_afterService (s : State) (g : HostNo) :
    s.afterService.weight g = s.weight g := by
  unfold State.afterService; try dsimp only
  (repeat' split) <;> simp

@[simp] theorem State.ring_afterService (s : State) :
    s.afterService.sched.ring = s.sched.ring := by
  unfold State.afterService; try dsimp only
  (repeat' split) <;> simp

@[simp] theorem State.pointer_afterService (s : State) :
    s.afterService.sched.pointer = s.sched.pointer := by
  unfold State.afterService; try dsimp only
  (repeat' split) <;> simp

/-- At most one free choice is made (log 7). -/
theorem State.choices_afterService (s : State) :
    s.choices ≤ s.afterService.choices ∧ s.afterService.choices ≤ s.choices + 1 := by
  unfold State.afterService
  split
  · exact State.choices_select s
  · exact State.choices_leaveBus s

@[simp] theorem State.pending_afterService (s : State) :
    s.afterService.pending = s.pending := by
  unfold State.afterService; try dsimp only
  (repeat' split) <;> simp

/-! ## `endService` -/

@[simp] theorem State.weight_endService (s : State) (g : HostNo) :
    s.endService.weight g = s.weight g := by
  unfold State.endService; try dsimp only
  (repeat' split) <;> simp

@[simp] theorem State.ring_endService (s : State) :
    s.endService.sched.ring = s.sched.ring := by
  unfold State.endService; try dsimp only
  (repeat' split) <;> simp

@[simp] theorem State.pending_endService (s : State) :
    s.endService.pending = s.pending := by
  unfold State.endService; try dsimp only
  (repeat' split) <;> simp

/-! ## `cutService` -/

@[simp] theorem State.port_cutService (s : State) (h : HostNo) (g : HostNo) :
    (s.cutService h).port g = s.port g := by
  unfold State.cutService; try dsimp only
  (repeat' split) <;> simp

@[simp] theorem State.weight_cutService (s : State) (h : HostNo) (g : HostNo) :
    (s.cutService h).weight g = s.weight g := by
  unfold State.cutService; try dsimp only
  (repeat' split) <;> simp

@[simp] theorem State.ring_cutService (s : State) (h : HostNo) :
    (s.cutService h).sched.ring = s.sched.ring := by
  unfold State.cutService; try dsimp only
  (repeat' split) <;> simp

@[simp] theorem State.pointer_cutService (s : State) (h : HostNo) :
    (s.cutService h).sched.pointer = s.sched.pointer := by
  unfold State.cutService; try dsimp only
  (repeat' split) <;> simp

/-- At most one free choice is made (log 7). -/
theorem State.choices_cutService (s : State) (h : HostNo) :
    s.choices ≤ (s.cutService h).choices ∧ (s.cutService h).choices ≤ s.choices + 1 := by
  unfold State.cutService; try dsimp only
  (repeat' split) <;> first
    | exact ⟨le_rfl, Nat.le_succ _⟩
    | exact ⟨le_trans (le_of_eq (by simp)) (State.choices_afterService _).1,
        le_trans (State.choices_afterService _).2 (le_of_eq (by simp))⟩

@[simp] theorem State.pending_cutService (s : State) (h : HostNo) :
    (s.cutService h).pending = s.pending := by
  unfold State.cutService; try dsimp only
  (repeat' split) <;> simp

/-! ## `pinnedAbort` -/

@[simp] theorem State.weight_pinnedAbort (s : State) (g : HostNo) :
    s.pinnedAbort.weight g = s.weight g := by
  unfold State.pinnedAbort; try dsimp only
  (repeat' split) <;> simp

@[simp] theorem State.ring_pinnedAbort (s : State) :
    s.pinnedAbort.sched.ring = s.sched.ring := by
  unfold State.pinnedAbort; try dsimp only
  (repeat' split) <;> simp

@[simp] theorem State.pending_pinnedAbort (s : State) :
    s.pinnedAbort.pending = s.pending := by
  unfold State.pinnedAbort; try dsimp only
  (repeat' split) <;> simp

/-! ## `discardPartial` -/

@[simp] theorem State.ctx_discardPartial (s : State) (d : CtxNo) :
    s.discardPartial.ctx d = s.ctx d := by
  unfold State.discardPartial; try dsimp only
  (repeat' split) <;> simp

@[simp] theorem State.window_discardPartial (s : State) (u : WinNo) :
    s.discardPartial.window u = s.window u := by
  unfold State.discardPartial; try dsimp only
  (repeat' split) <;> simp

@[simp] theorem State.line_discardPartial (s : State) (m : LineNo) :
    s.discardPartial.line m = s.line m := by
  unfold State.discardPartial; try dsimp only
  (repeat' split) <;> simp

@[simp] theorem State.port_discardPartial (s : State) (g : HostNo) :
    s.discardPartial.port g = s.port g := by
  unfold State.discardPartial; try dsimp only
  (repeat' split) <;> simp

@[simp] theorem State.cq_discardPartial (s : State) (g : HostNo) :
    s.discardPartial.cq g = s.cq g := by
  unfold State.discardPartial; try dsimp only
  (repeat' split) <;> simp

@[simp] theorem State.wd_discardPartial (s : State) (g : HostNo) :
    s.discardPartial.wd g = s.wd g := by
  unfold State.discardPartial; try dsimp only
  (repeat' split) <;> simp

@[simp] theorem State.readyList_discardPartial (s : State) (g : HostNo) :
    s.discardPartial.readyList g = s.readyList g := by
  unfold State.discardPartial; try dsimp only
  (repeat' split) <;> simp

@[simp] theorem State.weight_discardPartial (s : State) (g : HostNo) :
    s.discardPartial.weight g = s.weight g := by
  unfold State.discardPartial; try dsimp only
  (repeat' split) <;> simp

@[simp] theorem State.ring_discardPartial (s : State) :
    s.discardPartial.sched.ring = s.sched.ring := by
  unfold State.discardPartial; try dsimp only
  (repeat' split) <;> simp

@[simp] theorem State.pointer_discardPartial (s : State) :
    s.discardPartial.sched.pointer = s.sched.pointer := by
  unfold State.discardPartial; try dsimp only
  (repeat' split) <;> simp

@[simp] theorem State.mark_discardPartial (s : State) :
    s.discardPartial.sched.mark = s.sched.mark := by
  unfold State.discardPartial; try dsimp only
  (repeat' split) <;> simp

@[simp] theorem State.work_discardPartial (s : State) :
    s.discardPartial.sched.work = s.sched.work := by
  unfold State.discardPartial; try dsimp only
  (repeat' split) <;> simp

@[simp] theorem State.choices_discardPartial (s : State) :
    s.discardPartial.choices = s.choices := by
  unfold State.discardPartial; try dsimp only
  (repeat' split) <;> simp

@[simp] theorem State.pending_discardPartial (s : State) :
    s.discardPartial.pending = s.pending := by
  unfold State.discardPartial; try dsimp only
  (repeat' split) <;> simp

/-! ## `pin` -/

@[simp] theorem State.ctx_pin (s : State) (v : Service) (d : CtxNo) :
    (s.pin v).ctx d = s.ctx d := rfl

@[simp] theorem State.window_pin (s : State) (v : Service) (u : WinNo) :
    (s.pin v).window u = s.window u := rfl

@[simp] theorem State.line_pin (s : State) (v : Service) (m : LineNo) :
    (s.pin v).line m = s.line m := rfl

@[simp] theorem State.port_pin (s : State) (v : Service) (g : HostNo) :
    (s.pin v).port g = s.port g := rfl

@[simp] theorem State.cq_pin (s : State) (v : Service) (g : HostNo) :
    (s.pin v).cq g = s.cq g := rfl

@[simp] theorem State.wd_pin (s : State) (v : Service) (g : HostNo) :
    (s.pin v).wd g = s.wd g := rfl

@[simp] theorem State.readyList_pin (s : State) (v : Service) (g : HostNo) :
    (s.pin v).readyList g = s.readyList g := rfl

@[simp] theorem State.weight_pin (s : State) (v : Service) (g : HostNo) :
    (s.pin v).weight g = s.weight g := rfl

@[simp] theorem State.ring_pin (s : State) (v : Service) :
    (s.pin v).sched.ring = s.sched.ring := rfl

@[simp] theorem State.pointer_pin (s : State) (v : Service) :
    (s.pin v).sched.pointer = s.sched.pointer := rfl

@[simp] theorem State.mark_pin (s : State) (v : Service) :
    (s.pin v).sched.mark = s.sched.mark := rfl

@[simp] theorem State.work_pin (s : State) (v : Service) :
    (s.pin v).sched.work = s.sched.work := rfl

@[simp] theorem State.choices_pin (s : State) (v : Service) :
    (s.pin v).choices = s.choices := rfl

@[simp] theorem State.pending_pin (s : State) (v : Service) :
    (s.pin v).pending = s.pending := rfl

/-! ## `yieldService` -/

@[simp] theorem State.window_yieldService (s : State) (v : Service) (u : WinNo) :
    (s.yieldService v).window u = s.window u := by
  unfold State.yieldService; try dsimp only
  (repeat' split) <;> simp

@[simp] theorem State.cq_yieldService (s : State) (v : Service) (g : HostNo) :
    (s.yieldService v).cq g = s.cq g := by
  unfold State.yieldService; try dsimp only
  (repeat' split) <;> simp

@[simp] theorem State.weight_yieldService (s : State) (v : Service) (g : HostNo) :
    (s.yieldService v).weight g = s.weight g := by
  unfold State.yieldService; try dsimp only
  (repeat' split) <;> simp

@[simp] theorem State.ring_yieldService (s : State) (v : Service) :
    (s.yieldService v).sched.ring = s.sched.ring := by
  unfold State.yieldService; try dsimp only
  (repeat' split) <;> simp

@[simp] theorem State.pointer_yieldService (s : State) (v : Service) :
    (s.yieldService v).sched.pointer = s.sched.pointer := by
  unfold State.yieldService; try dsimp only
  (repeat' split) <;> simp

/-- At most one free choice is made (log 7). -/
theorem State.choices_yieldService (s : State) (v : Service) :
    s.choices ≤ (s.yieldService v).choices ∧ (s.yieldService v).choices ≤ s.choices + 1 := by
  unfold State.yieldService; try dsimp only
  (repeat' split) <;> first
    | exact ⟨le_rfl, Nat.le_succ _⟩
    | exact ⟨le_trans (le_of_eq (by simp)) (State.choices_leaveBus _).1,
        le_trans (State.choices_leaveBus _).2 (le_of_eq (by simp))⟩

@[simp] theorem State.pending_yieldService (s : State) (v : Service) :
    (s.yieldService v).pending = s.pending := by
  unfold State.yieldService; try dsimp only
  (repeat' split) <;> simp

/-! ## `settleCut` -/

@[simp] theorem State.ctx_settleCut (s : State) (h : HostNo) (d : CtxNo) :
    (s.settleCut h).ctx d = s.ctx d := by
  unfold State.settleCut; try dsimp only
  (repeat' split) <;> simp

@[simp] theorem State.window_settleCut (s : State) (h : HostNo) (u : WinNo) :
    (s.settleCut h).window u = s.window u := by
  unfold State.settleCut; try dsimp only
  (repeat' split) <;> simp

@[simp] theorem State.line_settleCut (s : State) (h : HostNo) (m : LineNo) :
    (s.settleCut h).line m = s.line m := by
  unfold State.settleCut; try dsimp only
  (repeat' split) <;> simp

@[simp] theorem State.port_settleCut (s : State) (h : HostNo) (g : HostNo) :
    (s.settleCut h).port g = s.port g := by
  unfold State.settleCut; try dsimp only
  (repeat' split) <;> simp

@[simp] theorem State.cq_settleCut (s : State) (h : HostNo) (g : HostNo) :
    (s.settleCut h).cq g = s.cq g := by
  unfold State.settleCut; try dsimp only
  (repeat' split) <;> simp

@[simp] theorem State.readyList_settleCut (s : State) (h : HostNo) (g : HostNo) :
    (s.settleCut h).readyList g = s.readyList g := by
  unfold State.settleCut; try dsimp only
  (repeat' split) <;> simp

@[simp] theorem State.weight_settleCut (s : State) (h : HostNo) (g : HostNo) :
    (s.settleCut h).weight g = s.weight g := by
  unfold State.settleCut; try dsimp only
  (repeat' split) <;> simp

@[simp] theorem State.engine_settleCut (s : State) (h : HostNo) :
    (s.settleCut h).engine = s.engine := by
  unfold State.settleCut; try dsimp only
  (repeat' split) <;> simp

@[simp] theorem State.ring_settleCut (s : State) (h : HostNo) :
    (s.settleCut h).sched.ring = s.sched.ring := by
  unfold State.settleCut; try dsimp only
  (repeat' split) <;> simp

@[simp] theorem State.pointer_settleCut (s : State) (h : HostNo) :
    (s.settleCut h).sched.pointer = s.sched.pointer := by
  unfold State.settleCut; try dsimp only
  (repeat' split) <;> simp

@[simp] theorem State.mark_settleCut (s : State) (h : HostNo) :
    (s.settleCut h).sched.mark = s.sched.mark := by
  unfold State.settleCut; try dsimp only
  (repeat' split) <;> simp

@[simp] theorem State.work_settleCut (s : State) (h : HostNo) :
    (s.settleCut h).sched.work = s.sched.work := by
  unfold State.settleCut; try dsimp only
  (repeat' split) <;> simp

@[simp] theorem State.choices_settleCut (s : State) (h : HostNo) :
    (s.settleCut h).choices = s.choices := by
  unfold State.settleCut; try dsimp only
  (repeat' split) <;> simp

@[simp] theorem State.pending_settleCut (s : State) (h : HostNo) :
    (s.settleCut h).pending = s.pending := by
  unfold State.settleCut; try dsimp only
  (repeat' split) <;> simp

end Sys2Proof.Machine
end

