-- ==== Sys2Proof/Laws/Ops.lean ====
section
/-! SUPPORT. What each shared operation answers, said once: parameters and numbers, the taking of a command, the tests of R8,
the reply, the checks of a start, the posting, the selection. -/

namespace Sys2Proof.Machine

/-! ## Parameters and numbers -/

@[simp] theorem param_zero (b : Byte) (ps : List Byte) : param (b :: ps) 0 = b := rfl

@[simp] theorem param_succ (b : Byte) (ps : List Byte) (i : Nat) : param (b :: ps) (i + 1) = param ps i := rfl

theorem ctxOf_of_toNat {b : Byte} {c : CtxNo} (e : b.toNat = c.val) : ctxOf b = some c := by
  rw [ctxOf, dif_pos (by omega)]
  simp [e]

theorem ctxOf_large {b : Byte} (e : 0x10 ≤ b.toNat) : ctxOf b = none := by
  rw [ctxOf, dif_neg (by omega)]

theorem winOf_of_toNat {b : Byte} {w : WinNo} (e : b.toNat = w.val) : winOf b = some w := by
  rw [winOf, dif_pos (by omega)]
  simp [e]

theorem winOf_large {b : Byte} (e : 8 ≤ b.toNat) : winOf b = none := by
  rw [winOf, dif_neg (by omega)]

theorem stepOf_large {b : Byte} (e : 3 ≤ b.toNat) : stepOf b = none := by
  unfold stepOf
  split <;> first | omega | rfl

/-! ## Taking a command and replying (R153, R154) -/

theorem State.take_given {s : State} {h : HostNo} {k : Cmd} {ps : List Byte} (given : s.given h k ps)
    (run : List Byte → State → State × Reply) : s.take h k run = (run ps s).1.reply h (run ps s).2 := by
  simp [State.take, State.toTake, given.2]

/-- Where the block has no command of that kind to take, nothing happens (log 1). -/
theorem State.take_nothing {s : State} {h : HostNo} {k : Cmd} (nothing : ∀ q, s.toTake h = some q → q.cmd ≠ k)
    (run : List Byte → State → State × Reply) : s.take h k run = s := by
  unfold State.take
  split
  · next q e => rw [if_neg (nothing q e)]
  · rfl

theorem State.deliver_executing {s : State} {h : HostNo} (executing : (s.port h).state = .executing) (bytes : List Byte) :
    s.deliver h bytes = s.completed h bytes := by
  unfold State.deliver State.completed
  rw [if_pos executing]
  rfl

theorem State.deliver_discarded {s : State} {h : HostNo} (left : (s.port h).state ≠ .executing) (bytes : List Byte) :
    s.deliver h bytes = (s.setPort h { s.port h with passed := none }).beginDue h := by
  unfold State.deliver
  rw [if_neg left]

theorem State.waitOn_executing {s : State} {h : HostNo} (executing : (s.port h).state = .executing) (c : CtxNo) :
    s.waitOn h c =
      s.setPort h { s.port h with passed := (s.port h).passed.map fun q => { q with waiting := some c } } := by
  unfold State.waitOn
  rw [if_pos executing]

theorem State.waitOn_discarded {s : State} {h : HostNo} (left : (s.port h).state ≠ .executing) (c : CtxNo) :
    s.waitOn h c = (s.setPort h { s.port h with passed := none }).beginDue h := by
  unfold State.waitOn
  rw [if_neg left]

/-- A refusal, or any answer by a command that has touched no block: the command completes. -/
theorem State.take_answer {s : State} {h : HostNo} {k : Cmd} {ps bytes : List Byte} {run : List Byte → State → State × Reply}
    (given : s.given h k ps) {t : State} (port : (t.port h).state = .executing) (answer : run ps s = (t, .answer bytes)) :
    s.take h k run = t.completed h bytes := by
  rw [State.take_given given, answer]
  exact State.deliver_executing port bytes

/-! ## The tests of R8 -/

theorem State.ctxTest_accepted {s : State} {h : HostNo} {b : Byte} {c : CtxNo} {accept : CtxState → Bool}
    (number : b.toNat = c.val) (owned : s.owns h c) (accepted : accept (s.ctx c).state = true) :
    s.ctxTest h b accept = .ok c := by
  simp [State.ctxTest, ctxOf_of_toNat number, owned.1, owned.2, accepted]

theorem State.ctxTest_number {s : State} {h : HostNo} {b : Byte} (large : 0x10 ≤ b.toNat) (accept : CtxState → Bool) :
    s.ctxTest h b accept = .error .badParam := by
  simp [State.ctxTest, ctxOf_large large]

theorem State.ctxTest_notOwner {s : State} {h : HostNo} {b : Byte} {c : CtxNo} (number : b.toNat = c.val)
    (other : ¬s.owns h c) (accept : CtxState → Bool) : s.ctxTest h b accept = .error .notOwner := by
  have : (s.ctx c).state = .free ∨ (s.ctx c).owner ≠ some h := by
    by_cases e : (s.ctx c).state = .free
    · exact .inl e
    · exact .inr fun o => other ⟨e, o⟩
  simp only [State.ctxTest, ctxOf_of_toNat number]
  rw [if_pos this]

theorem State.ctxTest_badState {s : State} {h : HostNo} {b : Byte} {c : CtxNo} {accept : CtxState → Bool}
    (number : b.toNat = c.val) (owned : s.owns h c) (refused : accept (s.ctx c).state = false) :
    s.ctxTest h b accept = .error .badState := by
  simp [State.ctxTest, ctxOf_of_toNat number, owned.1, owned.2, refused]

theorem State.onCtx_ok {s : State} {h : HostNo} {ps : List Byte} {accept : CtxState → Bool} {c : CtxNo}
    (test : s.ctxTest h (param ps 0) accept = .ok c) (run : CtxNo → State × Reply) : s.onCtx h ps accept run = run c := by
  simp [State.onCtx, test]

theorem State.onCtx_refused {s : State} {h : HostNo} {ps : List Byte} {accept : CtxState → Bool} {r : Result}
    (test : s.ctxTest h (param ps 0) accept = .error r) (run : CtxNo → State × Reply) :
    s.onCtx h ps accept run = (s, .of r) := by
  simp [State.onCtx, test]

/-- A context that passes the three tests of R8 and stands CLAIMED is accepted by the set commands, REL and STA. -/
theorem State.ctxTest_claimed {s : State} {h : HostNo} {b : Byte} {c : CtxNo} (number : b.toNat = c.val)
    (claimed : (s.ctx c).state = .claimed) (owner : (s.ctx c).owner = some h) : s.ctxTest h b onlyClaimed = .ok c :=
  State.ctxTest_accepted number ⟨by simp [claimed], owner⟩ (by simp [onlyClaimed, claimed])

/-! ## An arrival for the beat in flight (R78, R105, R106) -/

theorem State.rivalOf_expiry (s : State) (v : Service) (b : Beat) : s.rivalOf v b .expiry = some .answer := rfl

theorem State.rivalOf_answer (s : State) (v : Service) (b : Beat) :
    s.rivalOf v b .answer = if (s.window (v.beatWindow b)).ackLimit = 0 then none else some .expiry := rfl

theorem State.pastLate_of_ne {s : State} {r : Rival} (other : s.engine.rival ≠ some r) : s.pastLate r = s := by
  unfold State.pastLate
  rw [if_neg other]
  rfl

/-- Once past, the arrival can no longer be late. -/
theorem State.rival_pastLate (s : State) (r : Rival) : (s.pastLate r).engine.rival ≠ some r := by
  unfold State.pastLate
  simp

theorem State.onBeat_noBeat {s : State} (noBeat : s.engine.beat = none) (r : Rival) (f : State → State) :
    s.onBeat r f = s.pastLate r := by
  simp [State.onBeat, noBeat]

/-- An arrival that cannot be a late one is of the beat in flight. -/
theorem State.onBeat_timely {s : State} {v : Service} {b : Beat} {r : Rival} (service : s.engine.service = some v)
    (beat : s.engine.beat = some b) (timely : s.engine.rival ≠ some r) (f : State → State) :
    s.onBeat r f = f (s.setEngine { s.engine with rival := s.rivalOf v b r }) := by
  simp [State.onBeat, service, beat, timely]

/-- One that may be late either has no effect, or is taken as from the state in which it cannot be late (log 30). -/
theorem State.onBeat_maybeLate {s : State} {v : Service} {b : Beat} {r : Rival} (service : s.engine.service = some v)
    (beat : s.engine.beat = some b) (late : s.engine.rival = some r) (f : State → State) :
    s.onBeat r f = s.countChoice.setEngine { s.engine with rival := none } ∨
      s.onBeat r f = (s.countChoice.setEngine { s.engine with rival := none }).onBeat r f := by
  by_cases choice : Config.arrivesLate s.choices = true
  · left
    simp [State.onBeat, service, beat, late, choice]
  · right
    simp [State.onBeat, service, beat, late, choice]
    cases r <;> rfl

/-- All that an arrival can do: nothing but to be late, or its effect on the beat in flight, with one free choice made at most. -/
theorem State.onBeat_cases (s : State) (r : Rival) (f : State → State) :
    s.onBeat r f = s.pastLate r ∨ s.onBeat r f = s.countChoice.setEngine { s.engine with rival := none } ∨
      ∃ v b t, s.engine.service = some v ∧ s.engine.beat = some b ∧ (t = s ∨ t = s.countChoice) ∧
        s.onBeat r f = f (t.setEngine { s.engine with rival := s.rivalOf v b r }) := by
  unfold State.onBeat
  split
  · next v b beat service =>
    dsimp only
    split
    · exact .inr (.inr ⟨_, _, s, service, beat, .inl rfl, rfl⟩)
    · split
      · exact .inr (.inl rfl)
      · exact .inr (.inr ⟨_, _, s.countChoice, service, beat, .inr rfl, rfl⟩)
  · exact .inl rfl

end Sys2Proof.Machine
end

