-- ==== Sys2Proof/Laws/Specs.lean ====
section
/-! SUPPORT. What the checks of a start and the choice of a selection say in plain terms: each check of R16 against the
condition that Safety.lean names for it; the references and lines that a start takes; the most urgent context of a list. -/

namespace Sys2Proof.Machine

/-! ## The checks of a start -/

theorem Ctx.incomplete_iff (x : Ctx) : x.incomplete = false ↔ x.hasParts := by
  unfold Ctx.incomplete Ctx.hasParts
  cases x.kind <;> simp [and_assoc]

theorem Ctx.mem_usedWindows (x : Ctx) (w : WinNo) :
    w ∈ x.usedWindows ↔ (x.kind ≠ .fill ∧ w = x.srcWin) ∨ (x.kind ≠ .check ∧ w = x.dstWin) := by
  unfold Ctx.usedWindows
  cases x.kind <;> simp [Kind.usesSource, Kind.usesDest]

theorem Ctx.mem_usedWindows_iff (x : Ctx) (w : WinNo) : w ∈ x.usedWindows ↔ 0 < x.roles w := by
  rw [Ctx.mem_usedWindows]
  unfold Ctx.roles
  rw [@eq_comm _ w x.srcWin, @eq_comm _ w x.dstWin]
  cases x.kind <;> by_cases a : x.srcWin = w <;> by_cases b : x.dstWin = w <;> simp [a, b]

theorem Window.covers_span (w : Window) (a : Addr) (st : AddrStep) (n : Half) (u : UnitSize) :
    w.covers (span a st n u) = true ↔ SpanInside w a st n u := by
  unfold Window.covers
  rw [Bool.and_eq_true, decide_eq_true_eq, decide_eq_true_eq]
  cases st <;> cases u <;>
    simp only [span, SpanInside, UnitSize.bytes, reduceCtorEq, false_implies, true_and, and_true, forall_const] <;> omega

theorem State.rangeOk_iff (s : State) (x : Ctx) : s.rangeOk x = true ↔ s.spansInside x := by
  unfold State.rangeOk State.spansInside
  cases x.kind <;> simp [Kind.usesSource, Kind.usesDest, Window.covers_span]

theorem State.lineBusy_iff (s : State) (x : Ctx) : s.lineBusy x = false ↔ s.lineFree x := by
  unfold State.lineBusy State.lineFree
  cases x.trigger.lineNo <;> simp

theorem State.noWindow_iff (s : State) (x : Ctx) :
    (x.usedWindows.any fun w => (s.window w).state = .closed) = false ↔ s.windowsLive x := by
  simp [State.windowsLive, Ctx.mem_usedWindows_iff]

theorem State.denied_iff (s : State) (x : Ctx) (h : HostNo) :
    (x.usedWindows.any fun w => !(s.window w).share.getLsbD h.val) = false ↔ s.windowsShared x h := by
  simp [State.windowsShared, Ctx.mem_usedWindows_iff]

theorem Ctx.badParam_iff (x : Ctx) :
    ((x.rep && x.parts.link) || x.oddStart || x.badLineSide) = false ↔ x.partsAgree := by
  unfold Ctx.oddStart Ctx.badLineSide Ctx.partsAgree
  cases x.trigger with
  | soft => cases x.kind <;> cases x.unit <;> simp [Kind.usesSource, Kind.usesDest]
  | line n side p => cases side <;> cases x.kind <;> cases x.unit <;> simp [Kind.usesSource, Kind.usesDest]

/-- A start passes its checks exactly where every condition of R16 holds. -/
theorem State.startCheck_none (s : State) (c : CtxNo) (h : HostNo) : s.startCheck c h = none ↔ MayStart s c h := by
  have hi := Ctx.incomplete_iff (s.ctx c)
  have hb := Ctx.badParam_iff (s.ctx c)
  have hn := State.noWindow_iff s (s.ctx c)
  have hd := State.denied_iff s (s.ctx c) h
  have hr := State.rangeOk_iff s (s.ctx c)
  have hl := State.lineBusy_iff s (s.ctx c)
  constructor
  · intro e
    simp only [State.startCheck] at e
    split at e
    · cases e
    rename_i e1
    split at e
    · cases e
    rename_i e2
    split at e
    · cases e
    rename_i e3
    split at e
    · cases e
    rename_i e4
    split at e
    · cases e
    rename_i e5
    split at e
    · cases e
    rename_i e6
    split at e
    · cases e
    rename_i e7
    exact ⟨not_not.1 e1, hi.1 (Bool.eq_false_iff.2 e2), hb.1 (Bool.eq_false_iff.2 e3), hn.1 (Bool.eq_false_iff.2 e4),
      hd.1 (Bool.eq_false_iff.2 e5), hr.1 (by simpa using e6), hl.1 (Bool.eq_false_iff.2 e7)⟩
  · intro m
    obtain ⟨m1, m2, m3, m4, m5, m6, m7⟩ := m
    simp only [State.startCheck]
    rw [if_neg (by simp [m1]), if_neg (by simp [hi.2 m2]), if_neg (by simp only [hb.2 m3]; simp),
      if_neg (by simp only [hn.2 m4]; simp), if_neg (by simp only [hd.2 m5]; simp), if_neg (by simp [hr.2 m6]),
      if_neg (by simp [hl.2 m7])]

/-! ## References and lines -/

theorem State.window_addRef (s : State) (w u : WinNo) :
    (s.addRef w).window u = { s.window u with refs := (s.window u).refs + if w = u then 1 else 0 } := by
  rw [State.addRef, State.window_setWindow]
  by_cases e : u = w
  · subst e; simp [Window.addRef]
  · rw [if_neg e, if_neg (Ne.symm e)]
    rfl

theorem State.window_releaseRef (s : State) (w u : WinNo) :
    (s.releaseRef w).window u = if w = u then (s.window u).release else s.window u := by
  rw [State.releaseRef, State.window_setWindow]
  by_cases e : u = w
  · subst e; simp
  · rw [if_neg e, if_neg (Ne.symm e)]

/-- A start takes one reference for each used role that names the window (R39). -/
theorem State.window_takeResources (s : State) (c : CtxNo) (u : WinNo) :
    (s.takeResources c).window u = { s.window u with refs := (s.window u).refs + (s.ctx c).roles u } := by
  rw [State.takeResources, State.window_bindLine]
  unfold Ctx.usedWindows Ctx.roles
  cases (s.ctx c).kind <;> simp [Kind.usesSource, Kind.usesDest, State.window_addRef, Nat.add_assoc]

/-- A context that leaves the started states gives up one reference for each used role that names the window (R6, R40). -/
theorem State.window_releaseResources (s : State) (c : CtxNo) (u : WinNo) :
    (s.releaseResources c).window u =
      match (s.ctx c).roles u with
      | 0 => s.window u
      | 1 => (s.window u).release
      | _ => (s.window u).release.release := by
  rw [State.releaseResources, State.window_unbindLine]
  unfold Ctx.usedWindows Ctx.roles
  cases (s.ctx c).kind <;> by_cases a : (s.ctx c).srcWin = u <;> by_cases b : (s.ctx c).dstWin = u <;>
    simp [Kind.usesSource, Kind.usesDest, State.window_releaseRef, a, b]

theorem State.line_bindLine (s : State) (c : CtxNo) (m : LineNo) :
    (s.bindLine c).line m =
      if (s.ctx c).trigger.lineNo = some m then { s.line m with bound := some c, armed := true } else s.line m := by
  unfold State.bindLine
  cases e : (s.ctx c).trigger.lineNo with
  | none => simp
  | some n =>
    by_cases k : m = n
    · subst k; simp
    · simp [State.line_setLine, k, Ne.symm k]

theorem State.line_unbindLine (s : State) (c : CtxNo) (m : LineNo) :
    (s.unbindLine c).line m =
      if (s.ctx c).trigger.lineNo = some m ∧ (s.line m).bound = some c then { s.line m with bound := none, armed := false }
      else s.line m := by
  unfold State.unbindLine
  cases e : (s.ctx c).trigger.lineNo with
  | none => simp
  | some n =>
    by_cases k : m = n
    · subst k; by_cases b : (s.line m).bound = some c <;> simp [b]
    · by_cases b : (s.line n).bound = some c <;> simp [b, State.line_setLine, k, Ne.symm k]

/-! ## The most urgent context -/

/-- The most urgent context of a list is in the list, and none of the list is more urgent (R54). -/
theorem State.mostUrgent_spec (s : State) : ∀ (l : List CtxNo) (c : CtxNo), s.mostUrgent l = some c →
    c ∈ l ∧ ∀ d, d ∈ l → (s.ctx c).priority ≤ (s.ctx d).priority
  | [], c, e => by simp [State.mostUrgent] at e
  | a :: l, c, e => by
    have ih := State.mostUrgent_spec s l
    simp only [State.mostUrgent] at e
    split at e
    · rename_i d ed
      obtain ⟨dl, du⟩ := ih d ed
      split at e <;> cases e
      · refine ⟨by simp [dl], fun x hx => ?_⟩
        rcases List.mem_cons.1 hx with rfl | hx
        · omega
        · exact du x hx
      · refine ⟨by simp, fun x hx => ?_⟩
        rcases List.mem_cons.1 hx with rfl | hx
        · omega
        · have := du x hx; omega
    · rename_i ed
      cases e
      refine ⟨by simp, fun x hx => ?_⟩
      rcases List.mem_cons.1 hx with rfl | hx
      · omega
      · cases l with
        | nil => simp at hx
        | cons b m => simp only [State.mostUrgent] at ed; repeat' split at ed
                      all_goals simp at ed

end Sys2Proof.Machine
end

