-- ==== Sys2Proof/Tests/Slice0.lean ====
section
/-! SUPPORT. The model's own tests: the smoke test of the checks, the codes as chapter 10 writes them, one small step for the
commands with the values the spec gives, and for each statement with hypotheses the state and operands that meet them
(`witness_` and the statement's name). -/

namespace Sys2Proof.Tests

set_option Elab.async false

open Sys2Proof Sys2Proof.Machine

/-! ## The states the tests use -/

/-- The state of a next outcome. -/
def out (o : Host.Outcome State Fault Refusal) : State :=
  match o with
  | .next t => t
  | _ => State.reset

/-- Context 15 as programmed by host 0: a MOVE of three one-byte units inside window 7. -/
def prog : Ctx :=
  { Ctx.reset with
    state := .claimed, owner := some 0, parts := ⟨true, true, true, true, true, false⟩, count := 3, residual := 3
    srcWin := 7, srcStart := 0x000010, curSrc := 0x000010, dstWin := 7, dstStart := 0x000020, curDst := 0x000020 }

/-- Window 7 as opened by host 0: eight bits wide, ack limit 1. -/
def win : Window :=
  { Window.reset with state := .opened, creator := some 0, limit := 0x0000FF, share := 1, ackLimit := 1 }

/-- The two together, with one command waiting. -/
def base : State :=
  { (State.reset.setCtx 15 prog).setWindow 7 win with pending := [.beatAnswer .ans8 0xABCD false] }

/-- Port `h` has passed the command `k` with `ps` to its block. -/
def passing (s : State) (h : HostNo) (k : Cmd) (ps : List Byte) : State :=
  s.setPort h { Port.reset with state := .executing, latch := some k.code, passed := some ⟨k, ps, none⟩ }

/-- Port 0 in a state of its own, with nothing else in it. -/
def portIn (st : PortState) : State := State.reset.setPort 0 { Port.reset with state := st }

/-- Context 15 in a state of its own. -/
def ctxIn (st : CtxState) : State := State.reset.setCtx 15 { prog with state := st }

/-- Context 15 started, the engine asking for the bus. -/
def waiting : State := out (exec (.sta 0) (passing base 0 .sta [15]))

/-- The grant has arrived with context 15 READY, and the selection is due. -/
def granted : State := waiting.setEngine { waiting.engine with lgnt := true, lown := true }

/-- Context 15 in service: the read beat of its first unit is in flight. -/
def busy : State := granted.selectNow true

/-- Context 15 in service, before the first strobe. -/
def unstrobed : State := granted.selectNow false

/-- The same with the grant withdrawn: when the service ends no selection follows, and the step has no free choice to make. -/
def ungranted (s : State) : State := s.setEngine { s.engine with losing := some ⟨false, false⟩, lgnt := false }

/-- The service record of `busy`. -/
def vBusy : Service :=
  { ctx := 15, kind := .move, unit := .one, trigger := .soft, length := 3, srcWin := 7, srcStep := .inc, readAddr := 0x000010
    dstWin := 7, dstStep := .inc, unitsRead := 0, unitsCommitted := 0, half := false, burst := 0, endDecided := none
    termMark := false, reqDropped := false, failure := none, drainLost := false, dataLost := false, writeOut := false
    pinEnding := false }

/-- The beat in flight of `busy`. -/
def bBusy : Beat :=
  { write := false, addr := 0x000010, byte := true, bur := false, inBurst := false, hi := none, lo := none, ra := none
    term := false }

/-- A write beat of one byte. -/
def bWrite : Beat := { bBusy with write := true, addr := 0x000020, lo := some 0x5A }

/-- The engine of `busy` with another state, service, buffer and beat. -/
def eng (st : EngState) (v : Service) (buf : List BufUnit) (b : Option Beat) : Engine :=
  { busy.engine with state := st, service := some v, buffer := buf, beat := b }

/-- `busy` with another context 15, window 7 and engine. -/
def serving (x : Ctx) (w : Window) (e : Engine) : State := ((busy.setCtx 15 x).setWindow 7 w).setEngine e

/-- Context 15 as it is in `busy`. -/
def active : Ctx := { prog with state := .active }

/-- A buffered byte. -/
def unit5A : BufUnit := { bytes := [0x5A], marked := false }

/-- Context 15 PINNED with one side-effect unit. -/
def pinned : State :=
  serving active { win with sideEffect := true, refs := 2 }
    { eng .pinned { vBusy with unitsRead := 1, writeOut := true } [unit5A] none with lown := false, lgnt := false }

/-- The run end of a fault in a write beat. -/
def faultEnd : RunEnd := { cause := .fault, wph := true, drainLost := false, dataLost := false, faultAddr := some 0x000020 }

/-- The run end by COUNT. -/
def countEnd : RunEnd := { cause := .count, wph := false, drainLost := false, dataLost := false, faultAddr := none }

/-- A record of host 0. -/
def rec7 : Record :=
  { seq := 7, ctx := 15, cause := .fault, wph := true, drainLost := false, dataLost := false, reloaded := false
    linkTaken := false, linkRefused := false, moved := 10, residual := 22, faultAddr := some 0x07A014 }

/-- Host 0's queue with these records and this held list. -/
def queued (s : State) (rs : List Record) (held : List CtxNo) : State := s.setCq 0 { queue := rs, held := held, nextSeq := 8 }

/-! ## The checks of a command, and the codes -/

/-- The one check refuses the BAD_CMD of an assigned code (10H is CLM, Table 10-1) and admits one of an unassigned code. -/
theorem test_bad_cmd_of_assigned_code_ill_formed :
    (Instr.badCmd 0 0x10).wellFormed = false ∧ (Instr.badCmd 0 0x00).wellFormed = true ∧
      (Instr.commandByte 3 0x10).wellFormed = true := by decide

/-- The table gives no bits: no word spells a command, and the queue stays as it is (log 13). -/
theorem test_no_word_spells_a_command :
    decodeTableWord 8 0x10 = none ∧ (State.reset.withFetchWord 8 0x10).pending = [] := by decide +kernel

/-- Table 10-1, the codes of the twenty commands. -/
theorem test_command_codes :
    [Cmd.clm, .rel, .src, .dst, .cnt, .mod, .pat, .lnk, .sta, .sus, .rsm, .abt, .qry].map Cmd.code =
        [0x10, 0x11, 0x20, 0x21, 0x22, 0x23, 0x24, 0x25, 0x30, 0x31, 0x32, 0x33, 0x38] ∧
      [Cmd.tke, .pek, .opw, .clw, .qwn, .wgt, .rsn].map Cmd.code = [0x40, 0x41, 0x50, 0x51, 0x52, 0x60, 0x61] := by
  decide

/-- R57 with Table 11-1, step 2, and section 11.4: the rings of weights 2, 1, 1, 1 and 1, 3, 1, 1. -/
theorem test_rings : ringOf #v[2, 1, 1, 1] = [0, 1, 2, 3, 0] ∧ ringOf #v[1, 3, 1, 1] = [0, 1, 2, 3, 1, 1] := by decide

/-- The three examples of R16, each with unit 2. -/
theorem test_spans :
    span 0x040000 .inc 100 .two = (0x040000, 0x0400C7) ∧ span 0x041000 .dec 100 .two = (0x040F3A, 0x041001) ∧
      span 0x200000 .hold 100 .two = (0x200000, 0x200001) := by decide

/-! ## One step of a command, against the values of the spec -/

/-- R9: the first claim with FFH takes context 0 and answers 00H, 00H. -/
theorem test_claim_any :
    let t := out (exec (.clm 2) (passing State.reset 2 .clm [0xFF]))
    (t.ctx 0).state = .claimed ∧ (t.ctx 0).owner = some 2 ∧ (t.port 2).response = [0x00, 0x00] := by decide +kernel

/-- R151, R152: CLM owes one byte; the byte written passes the command, and the port is EXECUTING. -/
theorem test_port_collects_and_passes :
    let t := out (exec (.commandByte 1 0x10) State.reset)
    let u := out (exec (.parameterByte 1 0x05) t)
    (t.port 1).state = .collecting ∧ (t.port 1).owed = 1 ∧ (u.port 1).state = .executing ∧
      (u.port 1).passed = some ⟨.clm, [0x05], none⟩ ∧ u.statusByte 1 = 0x80 := by decide +kernel

/-- R11: SRC writes start and current address, P3 first. -/
theorem test_source_address :
    let t := out (exec (.src 0) (passing (ctxIn .claimed) 0 .src [15, 3, 0x35, 0x01, 0x02, 2]))
    (t.ctx 15).curSrc = 0x350102 ∧ (t.ctx 15).srcWin = 3 ∧ (t.ctx 15).srcStep = .hold ∧ (t.ctx 15).dstWin = 7 := by
  decide +kernel

/-- R12: a count of 0 is refused, BAD_PARAM 02H, with ERR. -/
theorem test_count_of_zero_refused :
    let t := out (exec (.cnt 0) (passing (ctxIn .claimed) 0 .cnt [15, 0, 0]))
    (t.ctx 15).count = 3 ∧ (t.port 0).response = [0x02] ∧ (t.port 0).err = true := by decide +kernel

/-- Table 11-1, step 3: the span 060000H to 060027H of 20 two-byte units lies in 060000H to 06FFFFH. -/
theorem test_range_of_worked_sequence :
    ({ win with base := 0x060000, limit := 0x06FFFF } : Window).covers (span 0x060000 .inc 20 .two) = true ∧
      ({ win with base := 0x060000, limit := 0x060026 } : Window).covers (span 0x060000 .inc 20 .two) = false := by decide

/-- R17, R39: STA makes the context READY, takes one reference a role and asks for the bus. -/
theorem test_start :
    (waiting.ctx 15).state = .ready ∧ waiting.readyList 0 = [15] ∧ (waiting.window 7).refs = 2 ∧
      waiting.engine.state = .asking ∧ waiting.engine.lreq = true ∧ (waiting.port 0).response = [0x00] := by decide +kernel

/-- R59, R68, R78: the grant selects the context at slot 0, and its first beat reads 000010H. -/
theorem test_grant_begins_service :
    (busy.ctx 15).state = .active ∧ busy.readyList 0 = [] ∧ busy.sched.mark = some 0 ∧
      busy.engine.service = some vBusy ∧ busy.engine.beat = some bBusy := by decide +kernel

/-- R95: the grant withdrawn after the selection and before the first strobe: a yield with nothing read, and the context at the
head of its list. -/
theorem test_grant_loss_before_first_strobe :
    let t := out (exec .grantWithdrawal unstrobed)
    unstrobed.engine.beat = none ∧ (unstrobed.ctx 15).state = .active ∧ (t.ctx 15).state = .ready ∧ t.readyList 0 = [15] ∧
      (t.ctx 15).residual = 3 ∧ t.engine.state = .asking ∧ t.engine.lown = false ∧ t.sched.mark = none := by decide +kernel

/-- R95: the grant withdrawn before the selection: no selection is made. -/
theorem test_grant_loss_before_selection :
    let t := out (exec .grantWithdrawal granted)
    (t.ctx 15).state = .ready ∧ t.readyList 0 = [15] ∧ t.engine.state = .asking ∧ t.engine.lreq = true ∧
      t.engine.lown = false := by decide +kernel

/-- R94, R68: with no arrival waiting the part selects, and then issues the first beat. -/
theorem test_part_goes_on :
    granted.goOn.engine.service = some vBusy ∧ granted.goOn.engine.beat = none ∧ granted.goOn.readyList 0 = [] ∧
      unstrobed.goOn.engine.beat = some bBusy ∧ out (step State.reset) = State.reset := by
  decide +kernel

/-- R113, R112: an abort before the first strobe ends the run at once, with ABORT and no flag, and OK is answered. -/
theorem test_abort_before_first_strobe :
    let t := out (exec (.abt 0) (passing (ungranted unstrobed) 0 .abt [15]))
    (t.cq 0).queue.map Record.cause = [.abort] ∧ (t.cq 0).queue.map Record.dataLost = [false] ∧
      (t.port 0).response = [0x00] ∧ t.engine.lown = false := by decide +kernel

/-- R71: an answered read buffers its byte from LD7–LD0 and commits nothing. -/
theorem test_read_answer_buffers :
    let t := out (step busy)
    t.engine.buffer = [{ bytes := [0xCD], marked := false }] ∧ (t.ctx 15).moved = 0 ∧
      t.engine.beat.map Beat.addr = some 0x000011 ∧ t.pending = [] := by decide +kernel

/-- R74, R75: the write of the last unit ends the run with COUNT, and the record is 0 with moved 3. -/
theorem test_last_write_posts_count :
    let t := out (exec (.beatAnswer .ans8 0 false) (ungranted (serving
      { active with residual := 1, moved := 2, curDst := 0x000022 } { win with refs := 2 }
      (eng .writing { vBusy with unitsRead := 3, unitsCommitted := 2 } [unit5A] (some bWrite)))))
    (t.cq 0).queue.map Record.cause = [.count] ∧ (t.cq 0).queue.map Record.moved = [3] ∧ (t.ctx 15).state = .claimed ∧
      (t.window 7).refs = 0 ∧ t.atn 0 = true ∧ t.sched.pointer = 1 ∧ t.engine.lown = false := by decide +kernel

/-- R84: an AUTO window learns 8 from ANS8. -/
theorem test_auto_window_learns :
    let t := out (exec (.beatAnswer .ans8 0 false) (serving active { win with width := .auto, refs := 2 }
      (eng .reading vBusy [] (some bBusy))))
    (t.window 7).learned = some .w8 := by decide +kernel

/-- R88: SGL8 to a beat of a burst ends the burst and demotes the window; to a single beat it does neither. -/
theorem test_single_answer_demotes :
    let t := out (exec (.beatAnswer .sgl8 0 false) (serving active { win with burstAllowed := true, refs := 2 }
      (eng .reading { vBusy with burst := 2 } [] (some { bBusy with bur := true, inBurst := true }))))
    (t.window 7).demoted = true ∧ t.engine.beat.map Beat.bur = some false ∧
      ((out (exec (.beatAnswer .sgl8 0 false) busy)).window 7).demoted = false := by decide +kernel

/-- R132: the part drives TERM on the device-side beat that carries the run's last unit, and not on the one before. -/
theorem test_term_driven_on_last_unit :
    let s := fun r : Half => serving { active with residual := r } { win with refs := 2 }
      (eng .writing { vBusy with trigger := .line 7 .dest .paced } [unit5A] none)
    (s 1).issueBeat.drivesTermNow = true ∧ (s 2).issueBeat.drivesTermNow = false := by decide +kernel

/-- R82, R107: ANS16 in a window declared 8 fails the beat, and the run ends with WIDTH and the address of the beat. -/
theorem test_width_failure :
    let t := out (exec (.beatAnswer .ans16 0 false) (ungranted busy))
    (t.cq 0).queue.map Record.cause = [.width] ∧ (t.cq 0).queue.map Record.faultAddr = [some 0x000010] := by decide +kernel

/-- R104, R110: a FAULT answer to a write beat gives WPH. -/
theorem test_fault_in_write_phase :
    let t := out (exec (.faultAnswer .unnamed101) (ungranted (serving active { win with refs := 2 }
      (eng .writing { vBusy with unitsRead := 1 } [unit5A] (some bWrite)))))
    (t.cq 0).queue.map Record.cause = [.fault] ∧ (t.cq 0).queue.map Record.wph = [true] := by decide +kernel

/-- R105: with an ack limit of 0 nothing expires; with 1 the run ends with TIMEOUT. -/
theorem test_ack_timeout :
    out (exec .ackTimeout (serving active { win with ackLimit := 0, refs := 2 } busy.engine)) =
        serving active { win with ackLimit := 0, refs := 2 } busy.engine ∧
      ((out (exec .ackTimeout (ungranted busy))).cq 0).queue.map Record.cause = [.timeout] := by decide +kernel

/-- `busy` with `unit5A` buffered, in which an arrival may be a late one of the beat before. -/
def busyAfter (r : Rival) : State := serving active { win with refs := 2 } { eng .reading vBusy [unit5A] (some bBusy) with rival := some r }

/-- R105, R106: after an answer that the next read beat follows at once, the expiry of the beat answered may still arrive, too late;
after an expiry that a drain follows at once, the answer may. The one that cannot be late acts on the beat in flight. -/
theorem test_late_arrival_expected :
    let t := out (exec (.beatAnswer .ans8 0 false) (busyAfter .expiry))
    let u := out (exec .ackTimeout (busyAfter .answer))
    (t.engine.rival = some .expiry ∧ t.engine.beat.map Beat.addr = some 0x000011) ∧
      (u.engine.rival = some .answer ∧ u.engine.state = .draining ∧ u.engine.beat.map Beat.write = some true) ∧
      (out (exec (.beatAnswer .ans8 0 false) (serving active { win with refs := 2, ackLimit := 0 } busy.engine))).engine.rival =
        none := by decide +kernel

/-- R105, R106: a late expiry that finds no beat in flight has arrived; one that has not is past at the next grant arrival. -/
theorem test_late_expiry_past :
    let s := fun r => pinned.setEngine { pinned.engine with rival := some r }
    (out (exec .ackTimeout (s .expiry)) = pinned ∧ out (exec .ackTimeout (s .answer)) = s .answer) ∧
      ((out (exec .grantArrival (s .expiry))).engine.beat.isSome = true ∧
        (out (exec .grantArrival (s .expiry))).engine.rival = none) ∧
      (unstrobed.setEngine { unstrobed.engine with rival := some .expiry }).goOn.engine.rival = none := by
  decide +kernel

/-- R97: the grant lost with a read beat in flight: after its answer the context yields to the head of its list. -/
theorem test_grant_loss_yields :
    let t := out (exec (.beatAnswer .ans8 0 false) (out (exec .grantWithdrawal busy)))
    (t.ctx 15).state = .ready ∧ t.readyList 0 = [15] ∧ t.engine.state = .asking ∧ t.engine.lown = false ∧
      t.engine.buffer = [] ∧ t.sched.mark = none := by decide +kernel

/-- R96, R99 (Table 11-2, steps 4 and 5): with side-effect units buffered the service pins and keeps LREQ. -/
theorem test_grant_loss_pins :
    let t := out (exec (.beatAnswer .ans8 0 false) (serving active { win with sideEffect := true, refs := 2 }
      { eng .writing { vBusy with unitsRead := 2 } [unit5A, unit5A] (some bWrite) with
        losing := some ⟨false, false⟩, lgnt := false }))
    t.engine.state = .pinned ∧ t.engine.buffer = [unit5A] ∧ t.engine.lreq = true ∧ t.engine.lown = false ∧
      (t.ctx 15).moved = 1 := by decide +kernel

/-- R115: an abort in PINNED loses the buffered data: ABORT with DATA_LOST. -/
theorem test_abort_in_pinned :
    let t := out (exec (.abt 0) (passing (serving active { win with sideEffect := true, refs := 2 }
      { eng .pinned { vBusy with unitsRead := 1, writeOut := true } [unit5A] none with lown := false, lgnt := false })
      0 .abt [15]))
    (t.cq 0).queue.map Record.cause = [.abort] ∧ (t.cq 0).queue.map Record.dataLost = [true] ∧ t.engine.state = .idle ∧
      t.engine.lreq = false ∧ (t.port 0).response = [0x00] := by decide +kernel

/-- R19: SUS on the ACTIVE context waits, and the port stays BUSY. -/
theorem test_suspend_active_waits :
    let t := out (exec (.sus 0) (passing busy 0 .sus [15]))
    (t.ctx 15).suspendPending = true ∧ (t.port 0).state = .executing ∧ (t.port 0).response = [] := by decide +kernel

/-- R20: RSM makes a SUSPENDED context READY at the tail. -/
theorem test_resume :
    let t := out (exec (.rsm 0) (passing (ctxIn .suspended) 0 .rsm [15]))
    (t.ctx 15).state = .ready ∧ t.readyList 0 = [15] := by decide +kernel

/-- R31, R32: OPW with FFH opens window 0 and adds the issuer to the share mask. -/
theorem test_open_window :
    let t := out (exec (.opw 1) (passing State.reset 1 .opw [0xFF, 0x0C, 0, 0, 0x0C, 0x7F, 0xFF, 0x05, 0x04, 16]))
    (t.window 0).share = 0b0110 ∧ (t.window 0).width = .w16 ∧ (t.window 0).burstAllowed = true ∧
      (t.window 0).limit = 0x0C7FFF ∧ (t.port 1).response = [0x00, 0x00] := by decide +kernel

/-- R35: CLW of a window in use is refused with WINDOW_IN_USE, 0BH. -/
theorem test_close_window_in_use :
    let t := out (exec (.clw 0) (passing busy 0 .clw [7]))
    (t.window 7).state = .opened ∧ (t.port 0).response = [0x0B] := by decide +kernel

/-- R56, R58 (Table 11-1, step 2): weight 2 for host 0. -/
theorem test_weight_two :
    let t := out (exec (.wgt 0) (passing State.reset 0 .wgt [2]))
    t.sched.ring = [0, 1, 2, 3, 0] ∧ t.sched.pointer = 0 := by decide +kernel

/-- R144, Table 10-10 (Table 11-3, step 6): the record of context 8 is 13 bytes with its result and length. -/
theorem test_take_record :
    let t := out (exec (.tke 0) (passing (queued State.reset [{ rec7 with seq := 19, ctx := 8 }] []) 0 .tke []))
    (t.port 0).response = [0x00, 0x0B, 19, 8, 5, 0x01, 0, 10, 0, 22, 0x07, 0xA0, 0x14] ∧ (t.cq 0).queue = [] := by
  decide +kernel

/-- R145: PEK leaves the record. -/
theorem test_peek_record :
    let t := out (exec (.pek 0) (passing (queued State.reset [rec7] []) 0 .pek []))
    (t.port 0).response.length = 13 ∧ (t.cq 0).queue = [rec7] := by decide +kernel

/-- R120, R121: an unbound line records its level and nothing else. -/
theorem test_unbound_line :
    out (exec (.requestObservedAsserted 7) State.reset) = State.reset.setLine 7 ⟨none, false, true⟩ := by decide +kernel

/-- R118, R28 (Table 11-4, step 2): the answer to the beat a cut waits for commits nothing, and the context is FREE. -/
theorem test_cut_at_beat_end :
    let s := (busy.setPort 0 { Port.reset with state := .resetHeld }).setWd 0 (some ⟨.cut, false⟩)
    let u := out (exec .grantWithdrawal (out (exec .serviceCut s)))
    let t := out (exec (.beatAnswer .ans8 0 false) u)
    (t.ctx 15).state = .free ∧ (t.ctx 15).moved = 0 ∧ (t.window 7).refs = 0 ∧ (t.cq 0).queue = [] ∧
      t.wd 0 = some ⟨.contexts, false⟩ := by decide +kernel

/-- R44: at step 4 of its creator's withdrawal a window in use is ORPHAN and keeps its sharers. -/
theorem test_orphan_window :
    let t := out (exec (.nextWithdrawalStep 1) ((State.reset.setWindow 3
      { win with creator := some 1, share := 0b0110, refs := 1 }).setWd 1 (some ⟨.windows, false⟩)))
    (t.window 3).state = .orphan ∧ (t.window 3).creator = none ∧ (t.window 3).share = 0b0110 := by decide +kernel

/-- R161, R162: the last step ends a withdrawal begun by RSN with OK. -/
theorem test_withdrawal_completes :
    let t := out (exec (.nextWithdrawalStep 1) ((State.reset.setPort 1 { Port.reset with state := .withdrawing }).setWd 1
      (some ⟨.weight, true⟩)))
    (t.port 1).state = .idle ∧ (t.port 1).response = [0x00] ∧ t.wd 1 = none := by decide +kernel

/-- R27, R90, R102: RESET frees the context in service, empties the buffer and gives up the bus. -/
theorem test_reset_in_service :
    let t := out (exec .reset busy)
    (t.ctx 15).state = .free ∧ t.engine = Engine.reset ∧ (t.window 7).refs = 0 ∧ t.pending.length = 1 := by decide +kernel

/-! ## States and operands that meet the hypotheses of the statements -/

theorem busy_service : busy.engine.service = some vBusy := by decide +kernel

theorem busy_beat : busy.engine.beat = some bBusy := by decide +kernel

theorem busy_wd (h : HostNo) : busy.wd h = none := by revert h; decide +kernel

theorem busy_core : CoreSound busy where
  queues := by unfold State.queuesBounded; decide +kernel
  ports := by intro h; constructor <;> (revert h; decide +kernel)
  engine := by
    constructor
    case service =>
      intro v e
      obtain rfl := Option.some.inj (busy_service.symm.trans e)
      constructor <;> decide +kernel
    all_goals decide +kernel
  table := by
    constructor
    case cut => intro h w c e; rw [busy_wd] at e; cases e
    case gone => intro h w c e; rw [busy_wd] at e; cases e
    all_goals decide +kernel
  service := by
    intro v e
    obtain rfl := Option.some.inj (busy_service.symm.trans e)
    constructor <;> decide +kernel
  counts := by intro c; constructor <;> (revert c; decide +kernel)

theorem busy_sound : Sound busy where
  core := busy_core
  ring := by unfold State.ringSound; decide +kernel
  windows := by
    intro w
    by_cases e : w = 7
    · subst e
      refine ⟨by decide +kernel, fun _ => ⟨0, by decide +kernel⟩, by decide +kernel, by decide +kernel, by decide +kernel⟩
    · refine ⟨?_, fun o => absurd o ?_, ?_, ?_, ?_⟩ <;> (revert w; decide +kernel)
  refs := by unfold State.refsSound; decide +kernel
  lines := by unfold State.linesSound; decide +kernel
  work := by unfold State.workSound; decide +kernel
  fence := by
    constructor
    · intro c started
      obtain rfl : c = 15 := by revert c; decide +kernel
      constructor <;> (intro _; constructor <;> decide +kernel)
    · intro v e
      obtain rfl := Option.some.inj (busy_service.symm.trans e)
      exact ⟨by decide +kernel, fun k => absurd k (by decide), by decide +kernel⟩

/-- Every statement about what a step keeps: `busy` is sound, and its step, the answer to a beat, answers a next state. -/
theorem witness_StaysSound : Sound busy ∧ ∃ t, step busy = .next t := ⟨busy_sound, _, rfl⟩

theorem witness_TablesStaySound : busy.windowsSound ∧ busy.pending.head? ≠ some .reset ∧ 0 < (busy.window 7).refs :=
  ⟨busy_sound.windows, by decide +kernel, by decide +kernel⟩

theorem witness_BeatsInsideWindows :
    Sound busy ∧ busy.engine.service = some vBusy ∧ busy.engine.beat = some bBusy := ⟨busy_sound, busy_service, busy_beat⟩

theorem witness_OtherHostsUntouched :
    CoreSound busy ∧ (Instr.statusRead 1).host = some 1 ∧ (0 : HostNo) ≠ 1 ∧ ∃ t, exec (.statusRead 1) busy = .next t :=
  ⟨busy_core, by decide, by decide, _, rfl⟩

theorem witness_StepTakesTheFrontCommand :
    (State.reset.pending = [] ∧ State.reset.engine.lown = false) ∧
      (granted.engine.lown = true ∧ granted.engine.beat = none ∧ granted.engine.losing = none ∧
        granted.engine.state = .asking) ∧
      (unstrobed.engine.lown = true ∧ unstrobed.engine.beat = none ∧ unstrobed.engine.state.onBus = true) := by
  decide +kernel

theorem witness_CommandByteTakenOrDropped :
    ((portIn .executing).port 0).state = .executing ∧ ((portIn .withdrawing).port 0).state = .withdrawing ∧
      ((portIn .idle).port 0).state = .idle ∧ ((portIn .resetHeld).port 0).state = .resetHeld ∧
      ((portIn .collecting).port 0).state = .collecting ∧
      Cmd.ofCode 0x50 = some .opw ∧ 0 < Cmd.opw.paramCount ∧ Cmd.ofCode 0x40 = some .tke ∧ Cmd.tke.paramCount = 0 := by
  decide +kernel

/-- A port collecting a CNT, which owes three bytes. -/
def collecting (got : List Byte) (owed : Nat) : State :=
  State.reset.setPort 0 { Port.reset with state := .collecting, latch := some 0x22, collect := got, owed := owed }

theorem witness_ParameterByteCollected :
    ((collecting [] 3).port 0).state = .collecting ∧ ((collecting [] 3).port 0).latch = some 0x22 ∧
      Cmd.ofCode 0x22 = some .cnt ∧ ((collecting [] 3).port 0).owed = 1 + 2 ∧ ((collecting [15, 0] 1).port 0).owed = 1 := by
  decide +kernel

theorem witness_StatusByteRead :
    ((portIn .idle).port 0).state ≠ .resetHeld ∧ ((portIn .resetHeld).port 0).state = .resetHeld := by decide +kernel

theorem witness_ResponseByteRead :
    ((portIn .idle).port 0).response = [] ∧
      ((State.reset.setPort 0 { Port.reset with response := [0x00] }).port 0).response = [0x00] ∧
      ((portIn .resetHeld).port 0).state = .resetHeld := by decide +kernel

theorem witness_ResignBeginsWithdrawal :
    ((portIn .idle).port 0).state = .idle ∧ ((portIn .collecting).port 0).state = .collecting := by decide +kernel

theorem witness_UnassignedCodeRefused : ((portIn .idle).port 0).state = .idle ∧ ∀ k : Cmd, (0xFF : Byte) ≠ k.code :=
  ⟨by decide +kernel, fun k => by cases k <;> decide⟩

/-- Host 0 in withdrawal at a step, its port in a state. -/
def leaving (st : PortState) (step : WStep) (byRsn : Bool) : State := (portIn st).setWd 0 (some ⟨step, byRsn⟩)

/-- Host 0 in WITHDRAWING with an STA that its block has not yet taken: PRSTn was asserted after it, and released. -/
def heldBack : State := out (exec (.prstRelease 0) (out (exec (.prstAssertion 0) (passing base 0 .sta [15]))))

theorem witness_PortResetAsserted :
    ((portIn .resetHeld).port 0).state = .resetHeld ∧
      (((leaving .withdrawing .cut true).port 0).state ≠ .resetHeld ∧
        (leaving .withdrawing .cut true).wd 0 = some ⟨.cut, true⟩ ∧ (leaving .withdrawing .cut true).toTake 0 = none) ∧
      (((portIn .idle).port 0).state ≠ .resetHeld ∧ (portIn .idle).wd 0 = none ∧ (portIn .idle).toTake 0 = none) ∧
      (((passing base 0 .sta [15]).port 0).state ≠ .resetHeld ∧ (passing base 0 .sta [15]).wd 0 = none ∧
        (passing base 0 .sta [15]).toTake 0 = some ⟨.sta, [15], none⟩ ∧ heldBack.toTake 0 = some ⟨.sta, [15], none⟩ ∧
        heldBack.wd 0 = some ⟨.begin, false⟩ ∧ (heldBack.port 0).state ≠ .resetHeld) := by decide +kernel

theorem witness_PortResetReleased :
    (((portIn .resetHeld).port 0).state = .resetHeld ∧ (portIn .resetHeld).wd 0 = none) ∧
      (((leaving .resetHeld .weight false).port 0).state = .resetHeld ∧
        (leaving .resetHeld .weight false).wd 0 = some ⟨.weight, false⟩) ∧
      ((portIn .idle).port 0).state ≠ .resetHeld := by decide +kernel

theorem witness_ContextTestsRefuse :
    Cmd.acceptedIn .rel = some [.claimed] ∧ (passing base 0 .rel [0x10]).given 0 .rel [0x10] ∧
      0x10 ≤ (0x10 : Byte).toNat ∧ (15 : Byte).toNat = (15 : CtxNo).val ∧ (0 : Byte).toNat = (0 : CtxNo).val ∧
      (passing base 0 .rel [0]).given 0 .rel [0] ∧ ¬(passing base 0 .rel [0]).owns 0 0 ∧
      (passing (ctxIn .held) 0 .rel [15]).given 0 .rel [15] ∧ (passing (ctxIn .held) 0 .rel [15]).owns 0 15 ∧
      ((passing (ctxIn .held) 0 .rel [15]).ctx 15).state ∉ [CtxState.claimed] := by decide +kernel

/-- Every context taken by host 1. -/
def full : State := { State.reset with ctxs := Vector.replicate 16 { Ctx.reset with state := .claimed, owner := some 1 } }

theorem witness_ClaimTakesFreeContext :
    (passing base 0 .clm [0]).given 0 .clm [0] ∧ ((passing base 0 .clm [0]).ctx 0).state = .free ∧
      (∀ d : CtxNo, d < 0 → ((passing base 0 .clm [0xFF]).ctx d).state ≠ .free) ∧
      (passing base 0 .clm [0xFF]).given 0 .clm [0xFF] ∧
      ((passing base 0 .clm [15]).ctx 15).state ≠ .free ∧ (15 : Byte).toNat = (15 : CtxNo).val ∧
      (passing full 0 .clm [0xFF]).given 0 .clm [0xFF] ∧ (∀ d, ((passing full 0 .clm [0xFF]).ctx d).state ≠ .free) ∧
      0x10 ≤ (0x10 : Byte).toNat ∧ 0x10 ≤ (0xFE : Byte).toNat ∧ (0xFE : Byte) ≠ 0xFF := by decide +kernel

/-- The hypotheses on the context that REL, the set commands and STA share. -/
theorem witness_ReleaseFreesContext (k : Cmd) (ps : List Byte) :
    (passing base 0 k ps).given 0 k ps ∧ (15 : Byte).toNat = (15 : CtxNo).val ∧
      ((passing base 0 k ps).ctx 15).state = .claimed ∧ ((passing base 0 k ps).ctx 15).owner = some 0 :=
  ⟨⟨rfl, rfl⟩, by decide, by rfl, by rfl⟩

theorem witness_SourceAndDestinationSet :
    (passing base 0 .src [15, 7, 1, 2, 3, 0x02]).given 0 .src [15, 7, 1, 2, 3, 0x02] ∧
      (passing base 0 .dst [15, 7, 1, 2, 3, 0x02]).given 0 .dst [15, 7, 1, 2, 3, 0x02] ∧
      (7 : Byte).toNat = (7 : WinNo).val ∧ (0 : Byte).toNat = (0 : WinNo).val ∧
      8 ≤ (8 : Byte).toNat ∧ 3 ≤ (3 : Byte).toNat ∧ ((passing base 0 .src [15, 7, 1, 2, 3, 0x02]).ctx 15).state = .claimed ∧
      ((passing base 0 .dst [15, 7, 1, 2, 3, 0x02]).ctx 15).owner = some 0 := by decide +kernel

theorem witness_CountAndPatternSet :
    (passing base 0 .cnt [15, 0xFF, 0xFF]).given 0 .cnt [15, 0xFF, 0xFF] ∧ ((0xFF#8 ++ 0xFF#8 : Half) ≠ 0) ∧
      ((0#8 ++ 0#8 : Half) = 0) ∧ (passing base 0 .pat [15, 0, 0, 0, 0]).given 0 .pat [15, 0, 0, 0, 0] ∧
      ((passing base 0 .cnt [15, 0xFF, 0xFF]).ctx 15).state = .claimed := by decide +kernel

theorem witness_ModeSet :
    (passing base 0 .mod [15, 0x3E, 0x9F]).given 0 .mod [15, 0x3E, 0x9F] ∧
      ((0x3E : Byte).extractLsb' 6 2 = 0 ∧ (0x9F : Byte).extractLsb' 5 2 = 0 ∧ (0x3E : Byte).extractLsb' 0 2 = 2) ∧
      (0x40 : Byte).extractLsb' 6 2 ≠ 0 ∧ (0x03 : Byte).extractLsb' 0 2 = 3 ∧ (0x20 : Byte).extractLsb' 5 2 ≠ 0 ∧
      ((passing base 0 .mod [15, 0x3E, 0x9F]).ctx 15).owner = some 0 := by decide +kernel

/-- Contexts 14 and 15 of host 0, CLAIMED. -/
def pair : State := base.setCtx 14 { prog with parts := ⟨true, true, true, true, true, true⟩, link := 15 }

theorem witness_LinkSet :
    (passing pair 0 .lnk [15, 0x10]).given 0 .lnk [15, 0x10] ∧ 0x10 ≤ (0x10 : Byte).toNat ∧ (0x10 : Byte) ≠ 0xFF ∧
      (passing pair 0 .lnk [15, 0xFF]).given 0 .lnk [15, 0xFF] ∧
      (15 : Byte).toNat = (15 : CtxNo).val ∧ ((13 : CtxNo) ≠ 15 ∧ ¬(passing pair 0 .lnk [15, 13]).owns 0 13) ∧
      ((14 : CtxNo) ≠ 15 ∧ (passing pair 0 .lnk [15, 14]).owns 0 14) ∧
      ((passing pair 0 .lnk [15, 14]).ctx 15).state = .claimed := by decide +kernel

theorem agrees {x : Ctx} (rep : x.rep = false) (unit : x.unit = .one) (soft : x.trigger = .soft) : x.partsAgree := by
  refine ⟨by simp [rep], by simp [unit], ?_⟩
  intro n d p e
  rw [soft] at e
  cases e

theorem witness_StartTaken :
    (passing base 0 .sta [15]).given 0 .sta [15] ∧ (15 : Byte).toNat = (15 : CtxNo).val ∧
      (passing base 0 .sta [15]).owns 0 15 ∧ MayStart (passing base 0 .sta [15]) 15 0 :=
  ⟨by decide +kernel, by decide, by decide +kernel,
    ⟨by decide +kernel, by decide +kernel, agrees (by decide +kernel) (by decide +kernel) (by decide +kernel),
      by decide +kernel, by decide +kernel, by decide +kernel, by decide +kernel⟩⟩

/-- STA of context 15 with another record, window 7 and line 7. -/
def starting (x : Ctx) (w : Window) (l : Line) : State := passing (((base.setCtx 15 x).setWindow 7 w).setLine 7 l) 0 .sta [15]

/-- Context 15 with line 7 as its trigger. -/
def lined : Ctx := { prog with trigger := .line 7 .dest .stream }

theorem lined_agrees : lined.partsAgree := by
  refine ⟨by decide, by decide, ?_⟩
  intro n d p e
  cases e
  exact ⟨by decide, by decide⟩

theorem witness_StartRefused :
    (¬((starting { prog with parts := ⟨true, true, false, true, true, true⟩ } win Line.reset).ctx 15).hasParts ∧
        ((starting { prog with parts := ⟨true, true, false, true, true, true⟩ } win Line.reset).ctx 15).state = .claimed) ∧
      (((starting { prog with rep := true, parts := ⟨true, true, true, true, true, true⟩ } win Line.reset).ctx 15).hasParts ∧
        ¬((starting { prog with rep := true, parts := ⟨true, true, true, true, true, true⟩ } win
          Line.reset).ctx 15).partsAgree) ∧
      ((starting lined win Line.reset).given 0 .sta [15] ∧ ((starting lined win Line.reset).ctx 15).hasParts ∧
        ((starting lined win Line.reset).ctx 15).partsAgree) ∧
      ¬(starting lined { win with state := .closed } Line.reset).windowsLive lined ∧
      ((starting lined { win with share := 2 } Line.reset).windowsLive lined ∧
        ¬(starting lined { win with share := 2 } Line.reset).windowsShared lined 0) ∧
      ((starting lined { win with limit := 0x000021 } Line.reset).windowsShared lined 0 ∧
        ¬(starting lined { win with limit := 0x000021 } Line.reset).spansInside lined) ∧
      ((starting lined { win with limit := 0x000022 } ⟨some 3, true, false⟩).windowsLive lined ∧
        (starting lined { win with limit := 0x000022 } ⟨some 3, true, false⟩).windowsShared lined 0 ∧
        (starting lined { win with limit := 0x000022 } ⟨some 3, true, false⟩).spansInside lined ∧
        ¬(starting lined { win with limit := 0x000022 } ⟨some 3, true, false⟩).lineFree lined) :=
  ⟨by decide +kernel, ⟨by decide +kernel, fun a => a.1 (by decide +kernel)⟩,
    ⟨by decide +kernel, by decide +kernel, lined_agrees⟩, by decide +kernel, by decide +kernel, by decide +kernel,
    by decide +kernel, by decide +kernel, by decide +kernel, by decide +kernel⟩

theorem witness_SuspendAndResume :
    ((passing waiting 0 .sus [15]).given 0 .sus [15] ∧ ((passing waiting 0 .sus [15]).ctx 15).state = .ready ∧
        ((passing waiting 0 .sus [15]).ctx 15).owner = some 0) ∧
      ((passing busy 0 .sus [15]).given 0 .sus [15] ∧ ((passing busy 0 .sus [15]).ctx 15).state = .active) ∧
      ((passing (ctxIn .suspended) 0 .rsm [15]).given 0 .rsm [15] ∧
        ((passing (ctxIn .suspended) 0 .rsm [15]).ctx 15).state = .suspended) := by decide +kernel

theorem witness_AbortEndsWaitingRun :
    ((passing waiting 0 .abt [15]).given 0 .abt [15] ∧ ((passing waiting 0 .abt [15]).ctx 15).owner = some 0 ∧
        ((passing waiting 0 .abt [15]).ctx 15).state = .ready) ∧
      ((passing (ctxIn .suspended) 0 .abt [15]).ctx 15).state = .suspended := by decide +kernel

theorem witness_AbortReachesService :
    ((passing busy 0 .abt [15]).given 0 .abt [15] ∧ ((passing busy 0 .abt [15]).ctx 15).owner = some 0 ∧
        ((passing busy 0 .abt [15]).ctx 15).state = .active ∧ (passing busy 0 .abt [15]).engine.service = some vBusy ∧
        vBusy.ctx = 15 ∧ (passing busy 0 .abt [15]).engine.state.onBus = true ∧
        (passing busy 0 .abt [15]).engine.beat.isSome = true) ∧
      ((passing unstrobed 0 .abt [15]).engine.service = some vBusy ∧ (passing unstrobed 0 .abt [15]).engine.beat = none ∧
        vBusy.half = false ∧ (passing unstrobed 0 .abt [15]).engine.state = .reading ∧
        (passing unstrobed 0 .abt [15]).engine.buffer = []) ∧
      ((passing pinned 0 .abt [15]).given 0 .abt [15] ∧ ((passing pinned 0 .abt [15]).ctx 15).state = .active ∧
        (passing pinned 0 .abt [15]).engine.state = .pinned) := by decide +kernel

theorem witness_QueryReportsContext :
    (passing busy 0 .qry [15]).given 0 .qry [15] ∧ (15 : Byte).toNat = (15 : CtxNo).val ∧
      (passing busy 0 .qry [15]).owns 0 15 := by decide +kernel

/-- The parameters of an OPW of 000010H to 000010H, attributes 06H, share 0FH. -/
def opwBytes (b : Byte) : List Byte := [b, 0, 0, 0x10, 0, 0, 0x10, 0x06, 0x0F, 0]

/-- Every window open. -/
def allOpen : State := { State.reset with windows := Vector.replicate 8 win }

theorem witness_WindowOpenedOrRefused :
    ((passing State.reset 0 .opw (opwBytes 7)).given 0 .opw (opwBytes 7) ∧ (7 : Byte).toNat = (7 : WinNo).val ∧
        ((passing State.reset 0 .opw (opwBytes 7)).window 7).state = .closed ∧
        (0#8 ++ 0#8 ++ 0x10#8 : Addr) ≤ 0#8 ++ 0#8 ++ 0x10#8 ∧ (0x06 : Byte).extractLsb' 0 2 = 2 ∧
        (0x06 : Byte).extractLsb' 4 4 = 0 ∧ (0x0F : Byte).extractLsb' 4 4 = 0) ∧
      ((passing State.reset 0 .opw (opwBytes 0xFF)).given 0 .opw (opwBytes 0xFF) ∧
        ∀ u : WinNo, u < 0 → ((passing State.reset 0 .opw (opwBytes 0xFF)).window u).state ≠ .closed) ∧
      8 ≤ (8 : Byte).toNat ∧ 8 ≤ (0xFE : Byte).toNat ∧ (0xFE : Byte) ≠ 0xFF ∧
      (0#8 ++ 0#8 ++ 0x0F#8 : Addr) < 0#8 ++ 0#8 ++ 0x10#8 ∧ (0x03 : Byte).extractLsb' 0 2 = 3 ∧
      (0x10 : Byte).extractLsb' 4 4 ≠ 0 ∧ (0x06 : Byte).extractLsb' 0 2 ≠ 3 ∧
      ((passing allOpen 0 .opw (opwBytes 0)).window 0).state ≠ .closed ∧
      ∀ w, ((passing allOpen 0 .opw (opwBytes 0xFF)).window w).state ≠ .closed := by decide +kernel

theorem witness_WindowClosed :
    ((passing base 0 .clw [8]).given 0 .clw [8] ∧ 8 ≤ (8 : Byte).toNat) ∧
      ((0 : Byte).toNat = (0 : WinNo).val ∧ ((passing base 0 .clw [0]).window 0).state = .closed) ∧
      ((7 : Byte).toNat = (7 : WinNo).val ∧ ((passing base 1 .clw [7]).window 7).state ≠ .closed ∧
        ((passing base 1 .clw [7]).window 7).creator ≠ some 1) ∧
      (((passing busy 0 .clw [7]).window 7).creator = some 0 ∧ 0 < ((passing busy 0 .clw [7]).window 7).refs) ∧
      (((passing base 0 .clw [7]).window 7).creator = some 0 ∧ ((passing base 0 .clw [7]).window 7).refs = 0) := by
  decide +kernel

theorem witness_QueryReportsWindow :
    (passing base 0 .qwn [7]).given 0 .qwn [7] ∧ 8 ≤ (8 : Byte).toNat ∧
      ((passing base 0 .qwn [0]).window 0).state = .closed ∧
      (((passing base 1 .qwn [7]).window 7).state ≠ .closed ∧ ((passing base 1 .qwn [7]).window 7).creator ≠ some 1 ∧
        ((passing base 1 .qwn [7]).window 7).share.getLsbD 1 = false) ∧
      ((passing base 0 .qwn [7]).window 7).creator = some 0 := by decide +kernel

theorem witness_WeightSet :
    (passing base 0 .wgt [4]).given 0 .wgt [4] ∧ 4 < (5 : Byte).toNat ∧
      (0 < (1 : Byte).toNat ∧ (passing base 0 .wgt [1]).weight 0 = (1 : Byte).toNat) ∧
      ((4 : Byte).toNat ≤ 4 ∧ (passing base 0 .wgt [4]).weight 0 ≠ (4 : Byte).toNat) := by decide +kernel

theorem witness_RingFollowsWeights :
    (∀ h : HostNo, 1 ≤ (#v[1, 4, 2, 3] : Vector Nat 4)[h.val] ∧ (#v[1, 4, 2, 3] : Vector Nat 4)[h.val] ≤ 4) ∧
      (ringOf #v[1, 4, 2, 3])[0]? = some 0 ∧ (ringOf #v[1, 4, 2, 3])[9]? = some 1 := by decide

theorem witness_SelectionChooses :
    waiting.ringSound ∧ waiting.choose = some (0, 15) ∧ State.reset.ringSound ∧ State.reset.choose = none := by
  unfold State.ringSound
  decide +kernel

theorem witness_SelectionBeginsService :
    waiting.choose = some (0, 15) ∧ (waiting.ctx 15).owner = some 0 ∧ State.reset.choose = none := by decide +kernel

/-- Host 0's queue full, context 15 HELD with a fault. -/
def heldFull : State :=
  queued (base.setCtx 15 { prog with state := .held, pendingEnd := some faultEnd }) (List.replicate 8 rec7) [15]

theorem witness_RecordTakenOrPeeked :
    ((passing base 0 .tke []).given 0 .tke [] ∧ (passing base 0 .pek []).given 0 .pek [] ∧
        ((passing base 0 .tke []).cq 0).queue = []) ∧
      (((passing (queued base [rec7] []) 0 .tke []).cq 0).queue = rec7 :: [] ∧
        ((passing (queued base [rec7] []) 0 .tke []).cq 0).held = []) ∧
      (((passing heldFull 0 .tke []).cq 0).queue = rec7 :: List.replicate 7 rec7 ∧
        ((passing heldFull 0 .tke []).cq 0).held = 15 :: [] ∧
        ((passing heldFull 0 .tke []).ctx 15).pendingEnd = some faultEnd) ∧
      rec7.faultAddr = some 0x07A014 ∧ ({ rec7 with faultAddr := none } : Record).faultAddr = none := by decide +kernel

theorem witness_RunEndPostedOrHeld :
    (busy.cq 0).queue.length < 8 ∧ 8 ≤ (heldFull.cq 0).queue.length ∧ countEnd.cause.ordinary = true ∧
      ((base.setCtx 15 { prog with rep := true }).ctx 15).rep = true ∧ faultEnd.cause.ordinary = false ∧
      (prog.rep = false ∧ prog.parts.link = false) ∧
      ((pair.ctx 14).rep = false ∧ (pair.ctx 14).parts.link = true ∧ (pair.ctx 14).link = 15 ∧
        (pair.ctx 15).owner = some 0 ∧ (pair.ctx 15).state = .claimed) := by decide +kernel

theorem witness_GrantTakenAndWithdrawn :
    (waiting.engine.lreq = true ∧ waiting.engine.lown = false ∧ waiting.engine.state = .asking) ∧
      (pinned.engine.lreq = true ∧ pinned.engine.lown = false ∧ pinned.engine.state = .pinned ∧
        pinned.engine.service.isSome = true) ∧
      State.reset.engine.lreq = false ∧ busy.engine.lown = true ∧ State.reset.engine.lown = false ∧
      (busy.engine.losing = none ∧ busy.engine.beat.isSome = true ∧ busy.engine.service = some vBusy) ∧
      (granted.engine.lown = true ∧ granted.engine.losing = none ∧ granted.engine.beat = none ∧
        granted.engine.service = none) ∧
      (unstrobed.engine.lown = true ∧ unstrobed.engine.losing = none ∧ unstrobed.engine.beat = none ∧
        unstrobed.engine.service = some vBusy) := by decide +kernel

/-- The grant lost in a service with these buffered units, LGNT at a level, and the service's context with abort pending or not. -/
def lostAt (lgnt abort se : Bool) (v : Service) (buf : List BufUnit) : State :=
  serving { active with abortPending := abort } { win with sideEffect := se, refs := 2 }
    { eng .writing v buf none with losing := some ⟨false, false⟩, lgnt := lgnt }

/-- The same with LGNT still deasserted and no abort. -/
def lost (se : Bool) (v : Service) (buf : List BufUnit) : State := lostAt false false se v buf

/-- R93, R100: the grant asserted again before LOWN fell: after the pin the write-out begins, in DRAINING for an ending service. -/
theorem test_regrant_at_pin :
    let t := (lostAt true false true vBusy [unit5A]).settleLoss
    let u := (lostAt true false true { vBusy with endDecided := some .term } [unit5A]).settleLoss
    (t.engine.state = .writing ∧ t.engine.lown = true ∧ t.engine.beat.map Beat.write = some true) ∧
      u.engine.state = .draining := by decide +kernel

/-- R115: an abort taken after the withdrawal of the grant meets the pin: ABORT with DATA_LOST. -/
theorem test_abort_after_grant_loss :
    let t := (lostAt false true true vBusy [unit5A]).settleLoss
    (t.cq 0).queue.map Record.cause = [.abort] ∧ (t.cq 0).queue.map Record.dataLost = [true] ∧ t.engine.lreq = false := by
  decide +kernel

/-- A beat in flight in a MOVE with a byte buffered, with a cut and the loss of the grant both waiting for it. -/
def cuttingLost (se cutFirst : Bool) : State :=
  ((serving active { win with sideEffect := se, refs := 2 }
    { eng .writing { vBusy with unitsRead := 1 } [unit5A] (some bWrite) with
      losing := some ⟨false, cutFirst⟩, lgnt := false }).setPort 0 { Port.reset with state := .resetHeld }).setWd 0
        (some ⟨.cutting, false⟩)

/-- R118: the grant lost first and then the cut: a pin is cut, a yield returns the context to READY, where step 3 finds it. The cut
first: the context is FREE. -/
theorem test_cut_and_grant_loss :
    let t := fun se cutFirst => out (exec (.beatAnswer .ans8 0 false) (cuttingLost se cutFirst))
    (((t true false).ctx 15).state = .free ∧ (t true false).engine.state = .idle) ∧
      (((t false false).ctx 15).state = .ready ∧ ((t false false).ctx 15).moved = 0) ∧
      ((t false true).ctx 15).state = .free ∧
      ∀ se cutFirst, (t se cutFirst).wd 0 = some ⟨.contexts, false⟩ ∧ (t se cutFirst).engine.lown = false := by decide +kernel

theorem witness_GrantLossSettled :
    ((lost true vBusy [unit5A]).engine.service = some vBusy ∧
        (lost true vBusy [unit5A]).engine.losing = some ⟨false, false⟩ ∧
        ((lost true vBusy [unit5A]).ctx vBusy.ctx).owner = some 0 ∧ (lost true vBusy [unit5A]).uncut vBusy ∧
        (lost true vBusy [unit5A]).engine.lgnt = false ∧
        ((lost true vBusy [unit5A]).ctx vBusy.ctx).abortPending = false) ∧
      (vBusy.kind ≠ .fill ∧ ((lost true vBusy [unit5A]).window 7).sideEffect = true ∧
        (lost true vBusy [unit5A]).engine.buffer ≠ []) ∧
      (((lost false vBusy [unit5A]).window 7).sideEffect = false ∧ (lost false vBusy [unit5A]).isEnding vBusy = false) ∧
      (lost false { vBusy with endDecided := some .term } [unit5A]).isEnding { vBusy with endDecided := some .term } = true ∧
      (lost true { vBusy with unit := .two, half := true } [unit5A]).engine.state ≠ .reading ∧
      (busy.engine.state = .reading ∧ ({ vBusy with unit := .two, half := true } : Service).half = true) ∧
      (∀ lgnt, (lostAt lgnt true true vBusy [unit5A]).engine.service = some vBusy ∧
        (lostAt lgnt true true vBusy [unit5A]).uncut vBusy ∧ (lostAt lgnt true true vBusy [unit5A]).engine.lgnt = lgnt ∧
        ((lostAt lgnt true true vBusy [unit5A]).ctx 15).abortPending = true ∧
        ((lostAt lgnt true true vBusy [unit5A]).ctx 15).owner = some 0 ∧
        (lostAt lgnt true true vBusy [unit5A]).engine.losing = some ⟨false, false⟩) ∧
      ((lostAt true false true vBusy [unit5A]).engine.lgnt = true ∧
        ((lostAt true false true vBusy [unit5A]).ctx 15).abortPending = false ∧
        (lostAt true false false vBusy [unit5A]).isEnding vBusy = false) ∧
      (cuttingLost false false).wd 0 = some ⟨.cutting, false⟩ := by
  decide +kernel

theorem witness_BeatsShaped :
    busy.engine.service = some vBusy ∧ busy.engine.state.onBus = true ∧ vBusy.burst = 0 ∧
      burstLength [(0x00000F, true), (0x000010, true)] = 1 ∧
      ((lost false vBusy [unit5A]).engine.buffer.map BufUnit.bytes).head? = some [0x5A] := by decide +kernel

/-- A two-byte MOVE in READING at its first or second byte, on a port of the width `d`. -/
def twoBytes (d : DeclWidth) (half : Bool) (b : Beat) : State :=
  serving { active with unit := .two } { win with width := d, refs := 2 }
    { eng .reading { vBusy with unit := .two, half := half } [] (some b) with
      partialByte := if half then some 0x12 else none }

theorem witness_MoveUnitRead :
    (busy.engine.service = some vBusy ∧ busy.engine.beat = some bBusy ∧ busy.engine.state = .reading ∧
        vBusy.kind = .move ∧ bBusy.write = false ∧ busy.uncut vBusy ∧ busy.plainAnswer vBusy bBusy .ans8 ∧
        vBusy.lastByte bBusy ∧ vBusy.endDecided = none) ∧
      (twoBytes .w16 false { bBusy with byte := false }).plainAnswer { vBusy with unit := .two }
        { bBusy with byte := false } .ans16 ∧
      ({ vBusy with unit := .two } : Service).lastByte { bBusy with byte := false } ∧
      ({ vBusy with unit := .two, half := true } : Service).lastByte bBusy ∧
      (twoBytes .w8 true bBusy).engine.partialByte = some 0x12 := by decide +kernel

theorem witness_FirstByteCommitsNothing :
    ((twoBytes .w8 false bBusy).engine.service = some { vBusy with unit := .two } ∧
        (twoBytes .w8 false bBusy).engine.beat = some bBusy ∧ (twoBytes .w8 false bBusy).uncut { vBusy with unit := .two } ∧
        (twoBytes .w8 false bBusy).plainAnswer { vBusy with unit := .two } bBusy .ans8 ∧
        (twoBytes .w8 false bBusy).engine.losing = none ∧ ((twoBytes .w8 false bBusy).ctx 15).abortPending = false) ∧
      bBusy.byte = true ∧ bBusy.write = false ∧ bWrite.byte = true ∧ bWrite.write = true ∧
      (twoBytes .w8 false bWrite).engine.beat = some bWrite ∧
      (let s := (twoBytes .w8 false bBusy).setCtx 15 { active with unit := .two, abortPending := true };
        s.engine.losing = none ∧ (s.ctx 15).abortPending = true ∧ s.engine.state = .reading ∧ s.engine.buffer = [] ∧
          s.uncut { vBusy with unit := .two } ∧ s.plainAnswer { vBusy with unit := .two } bBusy .ans8) ∧
      (let s := out (exec .grantWithdrawal ((twoBytes .w8 false bBusy).setWindow 7 { win with sideEffect := true, refs := 2 }));
        s.engine.losing = some ⟨false, false⟩ ∧ (s.window 7).sideEffect = true ∧ s.engine.beat = some bBusy ∧
          s.uncut { vBusy with unit := .two } ∧ s.plainAnswer { vBusy with unit := .two } bBusy .ans8) := by decide +kernel

/-- A MOVE or a FILL at a write beat, with this residual, buffer, source attribute and service. -/
def writing (residual : Half) (se : Bool) (v : Service) (buf : List BufUnit) : State :=
  serving { active with residual := residual, kind := v.kind } { win with sideEffect := se, refs := 2 }
    (eng .writing v buf (some bWrite))

/-- A STREAM service on side DEST whose request was observed deasserted. -/
def vStop : Service := { vBusy with trigger := .line 7 .dest .stream, reqDropped := true }

theorem witness_WrittenUnitCommitted :
    ((writing 1 false vBusy [unit5A]).engine.service = some vBusy ∧
        (writing 1 false vBusy [unit5A]).engine.beat = some bWrite ∧ vBusy.kind ≠ .check ∧ bWrite.write = true ∧
        (writing 1 false vBusy [unit5A]).uncut vBusy ∧ (writing 1 false vBusy [unit5A]).plainAnswer vBusy bWrite .ans8 ∧
        vBusy.lastByte bWrite ∧ vBusy.endDecided = none ∧ ((writing 1 false vBusy [unit5A]).ctx 15).residual = 1) ∧
      (let v := { vBusy with endDecided := some Cause.term };
        (writing 2 true v [unit5A, unit5A]).engine.service = some v ∧ v.lastByte bWrite ∧
          (writing 2 true v [unit5A, unit5A]).uncut v ∧ (writing 2 true v [unit5A, unit5A]).plainAnswer v bWrite .ans8 ∧
          (writing 2 true v [unit5A, unit5A]).engine.buffer.tail ≠ []) ∧
      ((writing 2 true vBusy [{ unit5A with marked := true }, unit5A]).ctx 15).residual ≠ 1 ∧
      ((writing 2 true vBusy [{ unit5A with marked := true }, unit5A]).engine.buffer.map BufUnit.marked).head? = some true ∧
      (writing 2 true vBusy [unit5A, unit5A]).engine.buffer.tail ≠ [] ∧
      ((writing 2 true vBusy [unit5A]).window 7).sideEffect = true ∧
      (writing 2 false vBusy [unit5A]).engine.buffer.tail = [] ∧
      ({ vBusy with kind := .fill, unitsCommitted := 2 } : Service).length ≤ 2 + 1 ∧
      ({ vBusy with kind := .fill, unitsCommitted := 1 } : Service).unitsCommitted + 1 < vBusy.length ∧
      vBusy.trigger.isStream = false ∧
      (vStop.trigger.isStream = true ∧ vStop.onSide .dest = true ∧ vStop.reqDropped = true ∧ vStop.writeOut = false ∧
        (writing 2 false vStop [unit5A, unit5A]).engine.state = .writing ∧
        (writing 2 false vStop [unit5A, unit5A]).plainAnswer vStop bWrite .ans8 ∧
        (writing 2 false vStop [unit5A, unit5A]).uncut vStop) := by decide +kernel

/-- A CHECK of one-byte units. -/
def vCheck : Service := { vBusy with kind := .check }

/-- The CHECK at its first beat. -/
def checking : State :=
  serving { active with kind := .check, mask := 0x00FF, pattern := 0x0034 } { win with refs := 1 }
    (eng .reading vCheck [] (some bBusy))

/-- A CHECK with its end decided and beats still announced. -/
def decidedCheck : State :=
  serving { active with kind := .check } { win with refs := 1 }
    (eng .reading { vCheck with endDecided := some .matched, burst := 1 } [] (some bBusy))

theorem witness_CheckedUnitCommitted :
    (checking.engine.service = some vCheck ∧ checking.engine.beat = some bBusy ∧ checking.engine.state = .reading ∧
        vCheck.kind = .check ∧ bBusy.write = false ∧ checking.uncut vCheck ∧ checking.plainAnswer vCheck bBusy .ans8 ∧
        vCheck.lastByte bBusy ∧ vCheck.endDecided = none ∧ (vCheck.half = true → vCheck.unit = .two)) ∧
      (bBusy.byte = true ∧ (0x34 : Byte) = (0x1234 : Half).extractLsb' 0 8 ∧ vCheck.unit = .one ∧
        (0x0034 : Half) = 0#8 ++ 0x34#8) ∧
      (let v := { vCheck with endDecided := some Cause.matched, burst := 1 };
        decidedCheck.engine.service = some v ∧ decidedCheck.engine.beat = some bBusy ∧ decidedCheck.uncut v ∧
          decidedCheck.plainAnswer v bBusy .ans8 ∧ v.lastByte bBusy ∧ v.burst ≠ 0 ∧
          ¬({ v with unit := .two } : Service).lastByte bBusy) := by decide +kernel

theorem witness_AnswersTeachWindow :
    (busy.engine.service = some vBusy ∧ busy.engine.beat = some bBusy ∧ 7 = vBusy.beatWindow bBusy ∧
        (busy.window 7).state ≠ .closed ∧ busy.engine.rival ≠ some .answer ∧
        (busy.window 7).inForce = some Answer.ans8.width) ∧
      ((serving active { win with width := .auto } busy.engine).window 7).inForce = none ∧
      ((serving active { win with state := .orphan, creator := none, refs := 2 } busy.engine).window 7).state ≠ .closed ∧
      busy.failsWith (.faultAnswer .fault111) .fault :=
  ⟨by decide +kernel, by decide +kernel, by decide +kernel, vBusy, bBusy, busy_service, busy_beat, rfl, by decide +kernel⟩

theorem witness_FailuresHandled :
    (busy.failsWith (.faultAnswer .unnamed110) .fault ∧ busy.failsWith .ackTimeout .timeout ∧
        busy.failsWith (.beatAnswer .sgl16 0 false) .width) ∧
      (busy.uncut vBusy ∧ busy.engine.state = .reading ∧ vBusy.kind = .move ∧ busy.engine.buffer = []) ∧
      (decidedCheck.failsWith .ackTimeout .timeout ∧ decidedCheck.engine.state = .reading) ∧
      ((writing 2 true vBusy [unit5A]).failsWith .ackTimeout .timeout ∧
        (writing 2 true vBusy [unit5A]).engine.state = .writing) ∧
      (State.reset.engine.beat = none ∧
        ((serving active { win with ackLimit := 0 } busy.engine).window (vBusy.beatWindow bBusy)).ackLimit = 0) ∧
      (∀ r, (busyAfter r).engine.service = some vBusy ∧ (busyAfter r).engine.beat = some bBusy ∧
        (busyAfter r).engine.rival = some r ∧ ((busyAfter r).window (vBusy.beatWindow bBusy)).ackLimit ≠ 0) :=
  ⟨⟨⟨vBusy, bBusy, busy_service, busy_beat, rfl, by decide +kernel⟩,
      ⟨vBusy, bBusy, busy_service, busy_beat, by decide +kernel⟩,
      ⟨vBusy, bBusy, busy_service, busy_beat, by decide +kernel⟩⟩, by decide +kernel,
    ⟨⟨_, bBusy, rfl, rfl, by decide +kernel⟩, rfl⟩, ⟨⟨_, bWrite, rfl, rfl, by decide +kernel⟩, rfl⟩, by decide +kernel,
    by intro r; cases r <;> decide +kernel⟩

theorem witness_ServiceEnds :
    (busy.engine.service = some vBusy ∧ (busy.ctx vBusy.ctx).owner = some 0 ∧ vBusy.endDecided = none ∧
        vBusy.failure = none ∧ (busy.ctx vBusy.ctx).abortPending = false ∧ busy.engine.lown = true ∧
        busy.engine.losing = none) ∧
      ({ vBusy with endDecided := some .count } : Service).endDecided = some countEnd.cause ∧
      countEnd.drainLost = vBusy.drainLost ∧ countEnd.dataLost = vBusy.dataLost ∧ countEnd.wph = false ∧
      countEnd.faultAddr = none ∧ pinned.engine.lown = false ∧ pinned.engine.lgnt = false ∧
      (busy.engine.lgnt = true ∧ { busy.engine with losing := some (⟨false, false⟩ : GrantLoss) }.losing ≠ none) := by
  decide +kernel

theorem witness_RequestObserved :
    (State.reset.line 0).bound = none ∧
      ((busy.setLine 7 ⟨some 15, false, true⟩).line 7).bound = some 15 ∧
      (vStop.ctx = 15 ∧ vStop.trigger.isStream = true) ∧ vBusy.trigger.isStream = false := by decide +kernel

/-- `busy` with the withdrawal of a host at one of its steps. -/
def busyLeaving (g : HostNo) (step : WStep) : State :=
  (busy.setPort g { Port.reset with state := .resetHeld }).setWd g (some ⟨step, false⟩)

theorem busyLeaving_core (g : HostNo) (step : WStep) (early : step = .cut ∨ step = .cutting ∨ step = .contexts ∧ g ≠ 0) :
    CoreSound (busyLeaving g step) where
  queues := busy_core.queues
  ports := by
    have all : ∀ g h, ∀ s ∈ [WStep.cut, .cutting, .contexts], PortSound ((busyLeaving g s).port h) ((busyLeaving g s).wd h) := by
      intro g h s m
      constructor <;> (revert g h s; decide +kernel)
    intro h
    exact all g h step (by obtain rfl | rfl | ⟨rfl, -⟩ := early <;> decide)
  engine := busy_core.engine
  table := by
    obtain ⟨owned, ready, readyOnce, act, held, heldOnce, heldFull', pendingEnd, abort, suspend, -, -⟩ := busy_core.table
    have only : ∀ h w, (busyLeaving g step).wd h = some w → h = g ∧ w = ⟨step, false⟩ := by
      intro h w e
      have wds : ∀ s ∈ [WStep.cut, .cutting, .contexts], ∀ g h : HostNo,
          (busyLeaving g s).wd h = if h = g then some ⟨s, false⟩ else none := by decide +kernel
      rw [wds step (by obtain rfl | rfl | ⟨rfl, -⟩ := early <;> decide)] at e
      split at e
      · exact ⟨by assumption, (Option.some.inj e).symm⟩
      · cases e
    refine ⟨owned, ready, readyOnce, act, held, heldOnce, heldFull', pendingEnd, abort, suspend, ?_, ?_⟩
    · intro h w c e contexts
      obtain ⟨rfl, rfl⟩ := only h w e
      obtain rfl | rfl | ⟨-, other⟩ := early
      · cases contexts
      · cases contexts
      · have free : ∀ h : HostNo, h ≠ 0 → ∀ c, (busy.ctx c).owner = some h → (busy.ctx c).state ≠ .active := by decide +kernel
        exact free h other c
    · intro h w c e past
      obtain ⟨rfl, rfl⟩ := only h w e
      obtain rfl | rfl | ⟨rfl, -⟩ := early <;> simp at past
  service := busy_core.service
  counts := busy_core.counts

theorem busyLeaving_sound : Sound (busyLeaving 1 .contexts) where
  core := busyLeaving_core 1 _ (.inr (.inr ⟨rfl, by decide⟩))
  ring := busy_sound.ring
  windows := busy_sound.windows
  refs := busy_sound.refs
  lines := busy_sound.lines
  work := by unfold State.workSound; decide +kernel
  fence :=
    ⟨fun c started => ⟨(busy_sound.fence.contexts c started).source, (busy_sound.fence.contexts c started).dest⟩,
      fun v e => ⟨(busy_sound.fence.service v e).move, (busy_sound.fence.service v e).check,
        (busy_sound.fence.service v e).beat⟩⟩

/-- `pinned` with the withdrawal of host 0 at step 2. -/
def pinnedLeaving : State := (pinned.setPort 0 { Port.reset with state := .resetHeld }).setWd 0 (some ⟨.cut, false⟩)

theorem pinnedLeaving_core : CoreSound pinnedLeaving where
  queues := busy_core.queues
  ports := (busyLeaving_core 0 .cut (.inl rfl)).ports
  engine := by
    constructor
    case service => intro v e; cases e; constructor <;> decide +kernel
    all_goals decide +kernel
  table := by
    constructor
    case cut =>
      intro h w c e contexts
      have same : ∀ c, (pinnedLeaving.ctx c).owner = ((busyLeaving 0 .cut).ctx c).owner ∧
          (pinnedLeaving.ctx c).state = ((busyLeaving 0 .cut).ctx c).state := by decide +kernel
      rw [(same c).1, (same c).2]
      exact (busyLeaving_core 0 .cut (.inl rfl)).table.cut h w c e contexts
    case gone =>
      intro h w c e past
      have same : ∀ c, (pinnedLeaving.ctx c).owner = ((busyLeaving 0 .cut).ctx c).owner := by decide +kernel
      rw [same]
      exact (busyLeaving_core 0 .cut (.inl rfl)).table.gone h w c e past
    all_goals decide +kernel
  service := by intro v e; cases e; constructor <;> decide +kernel
  counts := by intro c; constructor <;> (revert c; decide +kernel)

theorem cuttingLost_core (se cutFirst : Bool) : CoreSound (cuttingLost se cutFirst) where
  queues := busy_core.queues
  ports := (busyLeaving_core 0 .cutting (.inr (.inl rfl))).ports
  engine := by
    constructor
    case service => intro v e; cases e; constructor <;> (revert se cutFirst; decide +kernel)
    all_goals (revert se cutFirst; decide +kernel)
  table := by
    constructor
    case cut =>
      intro h w c e contexts
      have same : ∀ se cutFirst c, ((cuttingLost se cutFirst).ctx c).owner = ((busyLeaving 0 .cutting).ctx c).owner ∧
          ((cuttingLost se cutFirst).ctx c).state = ((busyLeaving 0 .cutting).ctx c).state := by decide +kernel
      rw [(same se cutFirst c).1, (same se cutFirst c).2]
      exact (busyLeaving_core 0 .cutting (.inr (.inl rfl))).table.cut h w c e contexts
    case gone =>
      intro h w c e past
      have same : ∀ se cutFirst c, ((cuttingLost se cutFirst).ctx c).owner = ((busyLeaving 0 .cutting).ctx c).owner := by
        decide +kernel
      rw [same]
      exact (busyLeaving_core 0 .cutting (.inr (.inl rfl))).table.gone h w c e past
    all_goals (revert se cutFirst; decide +kernel)
  service := by intro v e; cases e; constructor <;> (revert se cutFirst; decide +kernel)
  counts := by intro c; constructor <;> (revert se cutFirst c; decide +kernel)

theorem witness_ServiceCutMade :
    (CoreSound (busyLeaving 0 .cut) ∧ (busyLeaving 0 .cut).engine.service = some vBusy ∧ ((busyLeaving 0 .cut).ctx 15).owner = some 0 ∧
        (busyLeaving 0 .cut).wd 0 = some ⟨.cut, false⟩ ∧ (busyLeaving 0 .cut).engine.beat.isSome = true) ∧
      (CoreSound (busyLeaving 0 .cutting) ∧ (busyLeaving 0 .cutting).wd 0 = some ⟨.cutting, false⟩ ∧
        (busyLeaving 0 .cutting).engine.losing = none ∧ (busyLeaving 0 .cutting).engine.beat = some bBusy ∧
        (busyLeaving 0 .cutting).engine.rival = none ∧
        ((busyLeaving 0 .cutting).window (vBusy.beatWindow bBusy)).ackLimit ≠ 0) ∧
      (CoreSound pinnedLeaving ∧ pinnedLeaving.engine.service = some { vBusy with unitsRead := 1, writeOut := true } ∧
        pinnedLeaving.wd 0 = some ⟨.cut, false⟩ ∧ pinnedLeaving.engine.beat = none) ∧
      ∀ cutFirst : Bool, ∃ v, CoreSound (cuttingLost true cutFirst) ∧ v.kind ≠ .fill ∧
        (cuttingLost true cutFirst).engine.service = some v ∧ ((cuttingLost true cutFirst).ctx v.ctx).owner = some 0 ∧
        (cuttingLost true cutFirst).wd 0 = some ⟨.cutting, false⟩ ∧ (cuttingLost true cutFirst).engine.beat = some bWrite ∧
        (cuttingLost true cutFirst).engine.losing = some ⟨false, cutFirst⟩ ∧
        (cuttingLost true cutFirst).plainAnswer v bWrite .ans8 ∧ (cuttingLost true cutFirst).failsWith .ackTimeout .timeout ∧
        ((cuttingLost true cutFirst).window v.srcWin).sideEffect = true ∧ (cuttingLost true cutFirst).engine.buffer ≠ [] :=
  ⟨⟨busyLeaving_core 0 _ (.inl rfl), busy_service, by decide +kernel, by decide +kernel, by decide +kernel⟩,
    ⟨busyLeaving_core 0 _ (.inr (.inl rfl)), by decide +kernel, by decide +kernel, busy_beat, by decide +kernel, by decide +kernel⟩,
    ⟨pinnedLeaving_core, rfl, by decide +kernel, rfl⟩, fun cutFirst =>
      ⟨_, cuttingLost_core true cutFirst, by decide, rfl, by revert cutFirst; decide +kernel, by revert cutFirst; decide +kernel,
        rfl, rfl, by revert cutFirst; decide +kernel, ⟨_, bWrite, rfl, rfl, by revert cutFirst; decide +kernel⟩,
        by revert cutFirst; decide +kernel, by revert cutFirst; decide +kernel⟩⟩

theorem witness_WithdrawalStepsTaken :
    State.reset.wd 0 = none ∧ (leaving .resetHeld .begin false).wd 0 = some ⟨.begin, false⟩ ∧
      ((leaving .resetHeld .begin false).port 0).passed = none ∧
      (∀ v, (leaving .withdrawing .cut true).engine.service = some v →
        ((leaving .withdrawing .cut true).ctx v.ctx).owner ≠ some 0) ∧
      ((busyLeaving 1 .contexts).wd 1 = some ⟨.contexts, false⟩ ∧ Sound (busyLeaving 1 .contexts) ∧
        ∀ c, ((busyLeaving 1 .contexts).ctx c).owner = some 1 → ((busyLeaving 1 .contexts).ctx c).state ≠ .active) ∧
      (leaving .withdrawing .windows true).wd 0 = some ⟨.windows, true⟩ ∧
      (leaving .withdrawing .queue true).wd 0 = some ⟨.queue, true⟩ ∧
      (leaving .withdrawing .weight true).wd 0 = some ⟨.weight, true⟩ :=
  ⟨by decide +kernel, by decide +kernel, by decide +kernel, (fun v e => by cases e),
    ⟨by decide +kernel, busyLeaving_sound, by decide +kernel⟩, by decide +kernel, by decide +kernel, by decide +kernel⟩

/-- A command passed before the withdrawal began. -/
def lateClaim : State :=
  (State.reset.setPort 0 { Port.reset with state := .resetHeld, passed := some ⟨.clm, [0xFF], none⟩ }).setWd 0
    (some ⟨.begin, false⟩)

theorem witness_LateCommandResultDiscarded :
    (lateClaim.port 0).state ≠ .executing ∧ (lateClaim.port 0).passed = some ⟨.clm, [0xFF], none⟩ ∧
      lateClaim.wd 0 = some ⟨.begin, false⟩ ∧ Cmd.clm ≠ .rsn := by decide +kernel

end Sys2Proof.Tests
end

section
/-! SUPPORT. The commands of the Context Table (chapter 1), settled one by one: each is taken from its port, passes the tests of
R8 or is refused by the first that fails, and then acts on the context it names. -/

namespace Sys2Proof.Machine

/-! ## What a command of the Context Table answers -/

/-- A command that answers its response bytes with the ports untouched completes with them. -/
theorem State.take_answers {s t : State} {h : HostNo} {k : Cmd} {ps bytes : List Byte} {run : List Byte → State → State × Reply}
    (given : s.given h k ps) (answer : run ps s = (t, .answer bytes)) (port : t.port h = s.port h) :
    s.take h k run = t.completed h bytes :=
  State.take_answer given (by rw [port]; exact given.1) answer

/-- A command that waits on a service stays with its port, and says whose service it waits on (R119). -/
theorem State.take_waits {s t : State} {h : HostNo} {k : Cmd} {ps : List Byte} {c : CtxNo}
    {run : List Byte → State → State × Reply} (given : s.given h k ps) (waits : run ps s = (t, .wait c))
    (port : t.port h = s.port h) :
    s.take h k run = t.setPort h { s.port h with passed := some { cmd := k, params := ps, waiting := some c } } := by
  have executing : (t.port h).state = .executing := by rw [port]; exact given.1
  calc
    s.take h k run = t.waitOn h c := by rw [State.take_given given, waits]; rfl
    _ = _ := by rw [State.waitOn_executing executing, port, given.2]; rfl

/-- A command whose context test fails completes with that result and changes nothing. -/
theorem State.take_refused {s : State} {h : HostNo} {k : Cmd} {ps : List Byte} {run : List Byte → State → State × Reply}
    {accept : CtxState → Bool} {act : CtxNo → State × Reply} {r : Result} (given : s.given h k ps)
    (shape : run ps s = s.onCtx h ps accept act) (test : s.ctxTest h (param ps 0) accept = .error r) :
    s.take h k run = s.completed h [r.code] :=
  State.take_answers given (shape.trans (State.onCtx_refused test act)) rfl

/-- A command that names a CLAIMED context of its issuer, and acts on it with the answer `r`. -/
theorem State.take_claimed {s t : State} {h : HostNo} {k : Cmd} {b : Byte} {ps : List Byte}
    {run : List Byte → State → State × Reply} {act : CtxNo → State × Reply} {r : Result} {c : CtxNo}
    (given : s.given h k (b :: ps)) (number : b.toNat = c.val) (claimed : (s.ctx c).state = .claimed)
    (owner : (s.ctx c).owner = some h) (shape : run (b :: ps) s = s.onCtx h (b :: ps) onlyClaimed act)
    (answer : act c = (t, .of r)) (port : t.port h = s.port h) : s.take h k run = t.completed h [r.code] :=
  State.take_answers given
    (shape.trans ((State.onCtx_ok (State.ctxTest_claimed (by simpa using number) claimed owner) act).trans answer)) port

/-- Every command that names a context runs the tests of R8 first; where it accepts more states than Table 1-5 gives it, it
answers BAD_STATE by itself (STA, R16 check 2). -/
theorem Cmd.row_onCtx {k : Cmd} {accepted : List CtxState} (names : k.acceptedIn = some accepted) (h : HostNo) :
    ∃ (accept : CtxState → Bool) (act : List Byte → State → CtxNo → State × Reply),
      (∀ s, exec (k.row h) s = .next (s.take h k fun ps s => s.onCtx h ps accept (act ps s))) ∧
      ∀ ps s c, (s.ctx c).state ≠ .free → (s.ctx c).state ∉ accepted → accept (s.ctx c).state = true →
        act ps s c = (s, .of .badState) := by
  cases k <;> simp only [Cmd.acceptedIn, Option.some.injEq, reduceCtorEq] at names <;> subst names <;>
    refine ⟨_, _, fun s => rfl, fun ps s c used refused accepts => ?_⟩
  case sta =>
    have unclaimed : (s.ctx c).state ≠ .claimed := by simpa using refused
    simp [State.startCheck, unclaimed]
  case qry => cases e : (s.ctx c).state <;> simp_all
  all_goals simp_all [onlyClaimed]

/-- Settles O14: the tests run in the order of R8, and each refusal leaves every block alone. -/
theorem contextTestsRefuse : Obligations.ContextTestsRefuse := by
  unfold Obligations.ContextTestsRefuse
  intro s h k b ps accepted names given
  obtain ⟨accept, act, row, badState⟩ := Cmd.row_onCtx names h
  have refused : ∀ r : Result, s.ctxTest h b accept = .error r → exec (k.row h) s = .next (s.completed h [r.code]) :=
    fun r test => by rw [row, State.take_refused given rfl test]
  refine ⟨fun large => refused .badParam (State.ctxTest_number large accept), fun c number =>
    ⟨fun other => refused .notOwner (State.ctxTest_notOwner number other accept), fun owned bad => ?_⟩⟩
  cases accepts : accept (s.ctx c).state with
  | false => exact refused .badState (State.ctxTest_badState number owned accepts)
  | true =>
    have answer := (State.onCtx_ok (ps := b :: ps) (State.ctxTest_accepted number owned accepts) (act (b :: ps) s)).trans
      (badState (b :: ps) s c owned.1 bad accepts)
    rw [row, State.take_answers given answer rfl]
    rfl

/-! ## Claiming and releasing -/

/-- The lowest-numbered FREE context (R9). -/
theorem State.lowestFree_eq_some {s : State} {c : CtxNo} (free : (s.ctx c).state = .free)
    (lowest : ∀ d, d < c → (s.ctx d).state ≠ .free) : s.lowestFree = some c := by
  rw [State.lowestFree, allCtxs, ← Fin.find?_eq_find?_finRange, Fin.find?_eq_some_iff]
  simpa [free] using lowest

theorem State.lowestFree_eq_none {s : State} (taken : ∀ d, (s.ctx d).state ≠ .free) : s.lowestFree = none := by
  simp [State.lowestFree, taken]

theorem State.claim_lowest (h : HostNo) (s : State) :
    State.claim h [0xFF] s = match s.lowestFree with
      | some c => s.takeClaim h c
      | none => (s, refuseTwo .noContext) := rfl

theorem State.claim_numbered {b : Byte} (single : b ≠ 0xFF) (h : HostNo) (s : State) :
    State.claim h [b] s = match ctxOf b with
      | none => (s, refuseTwo .badParam)
      | some c => if (s.ctx c).state = .free then s.takeClaim h c else (s, refuseTwo .inUse) := if_neg single

theorem ne_all_of_toNat {b : Byte} {c : CtxNo} (number : b.toNat = c.val) : b ≠ 0xFF := by
  rintro rfl
  have := c.isLt
  simp at number
  omega

/-- Settles O15: by the number of the claim, and by the state of the context it names. -/
theorem claimTakesFreeContext : Obligations.ClaimTakesFreeContext := by
  unfold Obligations.ClaimTakesFreeContext
  intro s h b given
  have answers : ∀ {t bytes}, State.claim h [b] s = (t, .answer bytes) → t.port h = s.port h →
      exec (.clm h) s = .next (t.completed h bytes) :=
    fun answer port => congrArg Host.Outcome.next (State.take_answers given answer port)
  refine ⟨fun c named free => answers ?_ (State.port_setCtx ..), fun c number taken => answers ?_ rfl,
    fun all taken => answers ?_ rfl, fun large single => answers ?_ rfl⟩
  · rcases named with number | ⟨rfl, lowest⟩
    · rw [State.claim_numbered (ne_all_of_toNat number), ctxOf_of_toNat number]
      exact if_pos free
    · rw [State.claim_lowest, State.lowestFree_eq_some free lowest]
      rfl
  · rw [State.claim_numbered (ne_all_of_toNat number), ctxOf_of_toNat number]
    exact if_neg taken
  · rw [all, State.claim_lowest, State.lowestFree_eq_none taken]
    rfl
  · rw [State.claim_numbered single, ctxOf_large large]
    rfl

/-- Settles O16: REL passes the tests of R8 and removes what R10 names. -/
theorem releaseFreesContext : Obligations.ReleaseFreesContext := by
  unfold Obligations.ReleaseFreesContext
  intro s h b c given number claimed owner
  refine congrArg Host.Outcome.next (State.take_claimed (r := .ok) given number claimed owner rfl ?_ (State.port_setCtx ..))
  rfl

/-! ## Programming the parts -/

theorem stepOf_of_code {b : Byte} {d : AddrStep}
    (code : b = 0x00 ∧ d = .inc ∨ b = 0x01 ∧ d = .dec ∨ b = 0x02 ∧ d = .hold) : stepOf b = some d := by
  rcases code with ⟨rfl, rfl⟩ | ⟨rfl, rfl⟩ | ⟨rfl, rfl⟩ <;> rfl

/-- Settles O17: SRC and DST read the same window and step codes, each into its own side. -/
theorem sourceAndDestinationSet : Obligations.SourceAndDestinationSet := by
  unfold Obligations.SourceAndDestinationSet
  intro s h b bw a2 a1 a0 bs c number claimed owner
  refine ⟨fun w d window code => ⟨fun given => ?_, fun given => ?_⟩, fun bad => ⟨fun given => ?_, fun given => ?_⟩⟩
  · refine congrArg Host.Outcome.next (State.take_claimed (r := .ok) given number claimed owner rfl ?_ (State.port_setCtx ..))
    simp only [param_succ, param_zero, winOf_of_toNat window, stepOf_of_code code]
    rfl
  · refine congrArg Host.Outcome.next (State.take_claimed (r := .ok) given number claimed owner rfl ?_ (State.port_setCtx ..))
    simp only [param_succ, param_zero, winOf_of_toNat window, stepOf_of_code code]
    rfl
  all_goals
    refine congrArg Host.Outcome.next (State.take_claimed (r := .badParam) given number claimed owner rfl ?_ rfl)
    simp only [param_succ, param_zero]
    rcases bad with window | code
    · rw [winOf_large window]
      rfl
    · rw [stepOf_large code]
      cases winOf bw <;> rfl

/-- Settles O18: CNT tests its count alone, PAT nothing. -/
theorem countAndPatternSet : Obligations.CountAndPatternSet := by
  unfold Obligations.CountAndPatternSet
  intro s h b n1 n0 m1 m0 c number claimed owner
  refine ⟨fun given => ⟨fun counts => ?_, fun zero => ?_⟩, fun given => ?_⟩
  · refine congrArg Host.Outcome.next (State.take_claimed (r := .ok) given number claimed owner rfl ?_ (State.port_setCtx ..))
    exact congrArg (s.setPart c) (if_neg counts)
  · refine congrArg Host.Outcome.next (State.take_claimed (r := .badParam) given number claimed owner rfl ?_ rfl)
    exact congrArg (s.setPart c) (if_pos zero)
  · refine congrArg Host.Outcome.next (State.take_claimed (r := .ok) given number claimed owner rfl ?_ (State.port_setCtx ..))
    rfl

theorem kindOf_of_code {b : BitVec 2} {k : Kind} (code : b = 0 ∧ k = .move ∨ b = 1 ∧ k = .fill ∨ b = 2 ∧ k = .check) :
    kindOf b = some k := by
  rcases code with ⟨rfl, rfl⟩ | ⟨rfl, rfl⟩ | ⟨rfl, rfl⟩ <;> rfl

/-- A mode byte is refused for its reserved bits and for the reserved type (Table 10-4). -/
theorem modeOf_reserved {m : Byte} (reserved : m.extractLsb' 6 2 ≠ 0 ∨ m.extractLsb' 0 2 = 3) : modeOf m = none := by
  unfold modeOf
  split
  · next clear =>
    rw [reserved.resolve_left (not_not.2 clear)]
    rfl
  · rfl

theorem modeOf_clear {m : Byte} {k : Kind} (clear : m.extractLsb' 6 2 = 0) (kind : kindOf (m.extractLsb' 0 2) = some k) :
    modeOf m = some { kind := k, unit := if m.getLsbD 2 = true then .two else .one, rep := m.getLsbD 3
                      priority := (m.extractLsb' 4 2).toFin } := by
  rw [modeOf, if_pos clear, kind]
  rfl

theorem triggerOf_clear {t : Byte} (clear : t.extractLsb' 5 2 = 0) :
    triggerOf t = some (if t.getLsbD 7 = true then
        .line (t.extractLsb' 0 3).toFin (if t.getLsbD 3 = true then .dest else .source)
          (if t.getLsbD 4 = true then .stream else .paced)
      else .soft) := by
  rw [triggerOf, if_pos clear]
  split <;> rfl

/-- Settles O19: the mode byte and the trigger byte are each refused for their reserved encodings, and else read bit by bit. -/
theorem modeSet : Obligations.ModeSet := by
  unfold Obligations.ModeSet
  intro s h b m t c given number claimed owner
  refine ⟨fun reserved => ?_, fun mode trigger k code => ?_⟩
  · refine congrArg Host.Outcome.next (State.take_claimed (r := .badParam) given number claimed owner rfl ?_ rfl)
    simp only [param_succ, param_zero]
    rcases or_assoc.2 reserved with mode | trigger
    · rw [modeOf_reserved mode]
      rfl
    · rw [triggerOf, if_neg trigger]
      cases modeOf m <;> rfl
  · refine congrArg Host.Outcome.next (State.take_claimed (r := .ok) given number claimed owner rfl ?_ (State.port_setCtx ..))
    simp only [param_succ, param_zero]
    rw [modeOf_clear mode (kindOf_of_code code), triggerOf_clear trigger]
    rfl

/-- Settles O20: by the number of the successor, and by its owner. -/
theorem linkSet : Obligations.LinkSet := by
  unfold Obligations.LinkSet
  intro s h b l c given number claimed owner
  have answers : ∀ {t : State} {r : Result}, State.setLink h [b, l] s = (t, .of r) → t.port h = s.port h →
      exec (.lnk h) s = .next (t.completed h [r.code]) :=
    fun answer port => congrArg Host.Outcome.next (State.take_answers given answer port)
  have accepted : State.setLink h [b, l] s = _ :=
    State.onCtx_ok (State.ctxTest_claimed (by simpa using number) claimed owner) _
  simp only [param_succ, param_zero] at accepted
  refine ⟨fun large single => answers (r := .badParam) (accepted.trans ?_) rfl, fun all => ?_, fun d successor => ?_⟩
  · rw [if_neg single, ctxOf_large large]
  · exact answers (r := .ok) (accepted.trans (if_pos all)) (State.port_setCtx ..)
  rw [if_neg (ne_all_of_toNat successor), ctxOf_of_toNat successor] at accepted
  refine ⟨fun same => answers (r := .badParam) (accepted.trans (if_pos same)) rfl, fun other foreign => ?_, fun other owned => ?_⟩
  · have notOwner : (s.ctx d).state = .free ∨ (s.ctx d).owner ≠ some h := by
      by_contra none
      rw [not_or, not_not] at none
      exact foreign none
    exact answers (r := .notOwner) (accepted.trans ((if_neg other).trans (if_pos notOwner))) rfl
  · have isOwner : ¬((s.ctx d).state = .free ∨ (s.ctx d).owner ≠ some h) := by
      rw [not_or, not_not]
      exact owned
    exact answers (r := .ok) (accepted.trans ((if_neg other).trans (if_neg isOwner))) (State.port_setCtx ..)

/-! ## Starting (R16, R17) -/

/-- What a start writes in the context: the current set of the run, and READY (R17). -/
theorem Ctx.restart_eq (x : Ctx) :
    x.restart = { x with
      curSrc := if x.kind = .fill then x.curSrc else x.srcStart
      curDst := if x.kind = .check then x.curDst else x.dstStart
      residual := x.count, moved := 0 } := by
  unfold Ctx.restart
  cases x.kind <;> rfl

theorem State.ctx_takeStart (s : State) (c : CtxNo) (h : HostNo) (d : CtxNo) :
    (s.takeStart c h).ctx d =
      if d = c then { (s.ctx c).restart with state := .ready, abortPending := false, suspendPending := false }
      else s.ctx d := by
  simp [State.takeStart, State.ctx_setCtx]

theorem State.readyList_enterTail (s : State) (h : HostNo) (c : CtxNo) (g : HostNo) :
    (s.enterTail h c).readyList g = if g = h then s.readyList h ++ [c] else s.readyList g :=
  State.readyList_setReady ..

theorem State.line_takeResources (s : State) (c : CtxNo) (n : LineNo) :
    (s.takeResources c).line n =
      if (s.ctx c).trigger.lineNo = some n then { s.line n with bound := some c, armed := true } else s.line n := by
  have ctxs : ((s.ctx c).usedWindows.foldl State.addRef s).ctx c = s.ctx c :=
    foldl_keeps State.addRef (·.ctx c) (fun t w => State.ctx_addRef t w c) _ _
  have lines : ((s.ctx c).usedWindows.foldl State.addRef s).line n = s.line n :=
    foldl_keeps State.addRef (·.line n) (fun t w => State.line_addRef t w n) _ _
  rw [State.takeResources, State.line_bindLine, ctxs, lines]

/-- A start does what R17 says, whoever asks for it. -/
theorem State.takeStart_started (s : State) (c : CtxNo) (h : HostNo) : Started s (s.takeStart c h) c h where
  ctx := by rw [State.ctx_takeStart, if_pos rfl, Ctx.restart_eq]
  windows w := by simp [State.takeStart, State.window_takeResources]
  lines n := by simp [State.takeStart, State.line_takeResources]
  listed g := by simp [State.takeStart, State.readyList_enterTail]

/-- A start writes the contexts, the windows, the lines and the ready lists, and nothing else. -/
theorem State.takeStart_frame (s : State) (c : CtxNo) (h : HostNo) :
    s.takeStart c h = { s with
      ctxs := (s.takeStart c h).ctxs, windows := (s.takeStart c h).windows, lines := (s.takeStart c h).lines
      sched := { s.sched with ready := (s.takeStart c h).sched.ready } } := by
  have taken : ∃ windows lines, s.takeResources c = { s with windows := windows, lines := lines } := by
    unfold State.takeResources State.bindLine Ctx.usedWindows
    cases (s.ctx c).kind <;> split <;> exact ⟨_, _, rfl⟩
  obtain ⟨windows, lines, taken⟩ := taken
  rw [State.takeStart, taken]
  rfl

/-- STA of a context that its issuer owns runs the checks of R16 from the second on. -/
theorem State.start_owned {s : State} {h : HostNo} {b : Byte} {c : CtxNo} (number : b.toNat = c.val) (owned : s.owns h c) :
    State.start h [b] s = match s.startCheck c h with
      | some r => (s, .of r)
      | none => ((s.takeStart c h).reevaluate, .of .ok) :=
  State.onCtx_ok (State.ctxTest_accepted (by simpa using number) owned rfl) _

/-- Settles O21: with no check failing the start is taken. -/
theorem startTaken : Obligations.StartTaken := by
  unfold Obligations.StartTaken
  intro s h b c given number owned may
  refine ⟨s.takeStart c h, ?_, State.takeStart_started s c h, fun d other => ?_, State.takeStart_frame s c h⟩
  · refine congrArg Host.Outcome.next (State.take_answers given (bytes := [0x00]) ?_ (by simp))
    rw [State.start_owned number owned, (State.startCheck_none s c h).2 may]
    rfl
  · rw [State.ctx_takeStart, if_neg other]

/-- The checks 3 to 8 of a start of a CLAIMED context, each against the condition it tests (R16). -/
theorem State.startCheck_claimed {s : State} {c : CtxNo} {h : HostNo} (claimed : (s.ctx c).state = .claimed) :
    s.startCheck c h =
      if (s.ctx c).incomplete = true then some .incomplete
      else if ((s.ctx c).rep && (s.ctx c).parts.link || (s.ctx c).oddStart || (s.ctx c).badLineSide) = true then some .badParam
      else if ((s.ctx c).usedWindows.any fun w => (s.window w).state = .closed) = true then some .noWindow
      else if ((s.ctx c).usedWindows.any fun w => !(s.window w).share.getLsbD h.val) = true then some .denied
      else if (!s.rangeOk (s.ctx c)) = true then some .range
      else if s.lineBusy (s.ctx c) = true then some .lineBusy
      else none :=
  if_neg (not_not.2 claimed)

/-- Settles O22: each check fails exactly where its condition does, and the checks before it pass. -/
theorem startRefused : Obligations.StartRefused := by
  unfold Obligations.StartRefused
  intro s h b c given number owner claimed
  have refused : ∀ r : Result, s.startCheck c h = some r → exec (.sta h) s = .next (s.completed h [r.code]) := fun r failed => by
    refine congrArg Host.Outcome.next (State.take_answers given ?_ rfl)
    rw [State.start_owned number ⟨by simp [claimed], owner⟩, failed]
    rfl
  have fails : ∀ {b : Bool} {p : Prop}, (b = false ↔ p) → ¬p → b = true := fun iff not =>
    Bool.of_not_eq_false (mt iff.1 not)
  have passes : ∀ {b : Bool} {p : Prop}, (b = false ↔ p) → p → ¬b = true := fun iff holds =>
    Bool.not_eq_true _ ▸ iff.2 holds
  have parts := Ctx.incomplete_iff (s.ctx c)
  have agree := Ctx.badParam_iff (s.ctx c)
  have live := State.noWindow_iff s (s.ctx c)
  have shared := State.denied_iff s (s.ctx c) h
  have inside : (!s.rangeOk (s.ctx c)) = false ↔ s.spansInside (s.ctx c) := by
    rw [Bool.not_eq_false', State.rangeOk_iff]
  have line := State.lineBusy_iff s (s.ctx c)
  rw [State.startCheck_claimed claimed] at refused
  refine ⟨fun f3 => refused .incomplete ?_, fun p3 f4 => refused .badParam ?_, fun p3 p4 f5 => refused .noWindow ?_,
    fun p3 p4 p5 f6 => refused .denied ?_, fun p3 p4 p5 p6 f7 => refused .range ?_,
    fun p3 p4 p5 p6 p7 f8 => refused .lineBusy ?_⟩
  · rw [if_pos (fails parts f3)]
  · rw [if_neg (passes parts p3), if_pos (fails agree f4)]
  · rw [if_neg (passes parts p3), if_neg (passes agree p4), if_pos (fails live f5)]
  · rw [if_neg (passes parts p3), if_neg (passes agree p4), if_neg (passes live p5), if_pos (fails shared f6)]
  · rw [if_neg (passes parts p3), if_neg (passes agree p4), if_neg (passes live p5), if_neg (passes shared p6),
      if_pos (fails inside f7)]
  · rw [if_neg (passes parts p3), if_neg (passes agree p4), if_neg (passes live p5), if_neg (passes shared p6),
      if_neg (passes inside p7), if_pos (fails line f8)]

/-! ## Suspending, resuming, aborting -/

/-- An owned context is not FREE where its state is known to be another. -/
theorem State.owns_of_state {s : State} {h : HostNo} {c : CtxNo} {t : CtxState} (owner : (s.ctx c).owner = some h)
    (state : (s.ctx c).state = t) (used : t ≠ .free) : s.owns h c := ⟨by rwa [state], owner⟩

/-- Settles O23: SUS by the state of the context, RSM from SUSPENDED. -/
theorem suspendAndResume : Obligations.SuspendAndResume := by
  unfold Obligations.SuspendAndResume
  intro s h b c number owner
  have accepted : ∀ {accept : CtxState → Bool} {t : CtxState}, (s.ctx c).state = t → t ≠ .free → accept t = true →
      s.ctxTest h (param [b] 0) accept = .ok c := fun state used accepts =>
    State.ctxTest_accepted (by simpa using number) (State.owns_of_state owner state used) (by rw [state]; exact accepts)
  refine ⟨fun given ready => ?_, fun given active => ?_, fun given suspended => ?_⟩
  · refine congrArg Host.Outcome.next (State.take_answers given (bytes := [0x00]) ?_ (by simp))
    refine (State.onCtx_ok (accepted ready (by decide) (by decide)) _).trans (if_neg ?_)
    simp [ready]
  · have run : State.suspend h [b] s = (s.setCtx c { s.ctx c with suspendPending := true }, .wait c) :=
      (State.onCtx_ok (accepted active (by decide) (by decide)) _).trans (if_pos active)
    exact congrArg Host.Outcome.next (State.take_waits given run (State.port_setCtx ..))
  · refine congrArg Host.Outcome.next (State.take_answers given (bytes := [0x00]) ?_ (by simp))
    exact State.onCtx_ok (accepted suspended (by decide) (by decide)) _

/-- ABT of a context that its issuer owns, by its state (R21). -/
theorem State.abort_waiting {s : State} {h : HostNo} {b : Byte} {c : CtxNo} (number : b.toNat = c.val)
    (owner : (s.ctx c).owner = some h) (waits : (s.ctx c).state = .ready ∨ (s.ctx c).state = .suspended) :
    State.abort h [b] s = (((s.leaveReady h c).runEnds c h abortEnd).reevaluate, .of .ok) := by
  refine (State.onCtx_ok (State.ctxTest_accepted (by simpa using number) ⟨?_, owner⟩ ?_) _).trans (if_neg ?_) <;>
    rcases waits with e | e <;> simp [e]

theorem State.abort_active {s : State} {h : HostNo} {b : Byte} {c : CtxNo} (number : b.toNat = c.val)
    (owner : (s.ctx c).owner = some h) (active : (s.ctx c).state = .active) :
    State.abort h [b] s =
      let t := (s.setCtx c { s.ctx c with abortPending := true }).abortReaches
      (t, if (t.ctx c).abortPending then .wait c else .of .ok) :=
  (State.onCtx_ok (State.ctxTest_accepted (by simpa using number) ⟨by simp [active], owner⟩ (by simp [active])) _).trans
    (if_pos active)

/-- Settles O24: the run of a context that waits for the bus ends at once. -/
theorem abortEndsWaitingRun : Obligations.AbortEndsWaitingRun := by
  unfold Obligations.AbortEndsWaitingRun
  intro s h b c given number owner waits
  exact congrArg Host.Outcome.next
    (State.take_answers given (State.abort_waiting number owner waits) (by simp))

/-! ## The query -/

/-- Bit by bit, a byte built of flags reads back its flags. -/
theorem Parts.byte_reads (p : Parts) :
    p.byte.getLsbD 0 = p.source ∧ p.byte.getLsbD 1 = p.dest ∧ p.byte.getLsbD 2 = p.count ∧ p.byte.getLsbD 3 = p.mode ∧
      p.byte.getLsbD 4 = p.pattern ∧ p.byte.getLsbD 5 = p.link ∧ p.byte.extractLsb' 6 2 = 0 := by
  obtain ⟨a, b, c, d, e, f⟩ := p
  revert a b c d e f
  decide

/-- QRY byte 2 holds the state in its low bits and the owner above them (Table 10-8). -/
theorem stateByte_reads (t : CtxState) (h : HostNo) :
    (t.code ||| hostField (some h)).extractLsb' 0 3 = (match t with
      | .free => 0
      | .claimed => 1
      | .ready => 2
      | .active => 3
      | .suspended => 4
      | .held => 5) ∧
    (t.code ||| hostField (some h)).getLsbD 3 = false ∧ ((t.code ||| hostField (some h)).extractLsb' 4 2).toNat = h.val ∧
      (t.code ||| hostField (some h)).extractLsb' 6 2 = 0 := by
  revert h
  cases t <;> decide

theorem flagsByte_reads (armed abort suspend : Bool) :
    (bitAt 0 armed ||| bitAt 1 abort ||| bitAt 2 suspend).getLsbD 0 = armed ∧
      (bitAt 0 armed ||| bitAt 1 abort ||| bitAt 2 suspend).getLsbD 1 = abort ∧
      (bitAt 0 armed ||| bitAt 1 abort ||| bitAt 2 suspend).getLsbD 2 = suspend ∧
      (bitAt 0 armed ||| bitAt 1 abort ||| bitAt 2 suspend).extractLsb' 3 5 = 0 := by
  revert armed abort suspend
  decide

/-- The armed indication is shown for a started PACED context alone (R24). -/
theorem State.armedShown_iff (s : State) (c : CtxNo) :
    s.armedShown c = true ↔ (s.ctx c).state.started = true ∧
      ∃ n d, (s.ctx c).trigger = .line n d .paced ∧ (s.line n).armed = true := by
  unfold State.armedShown
  cases (s.ctx c).trigger with
  | soft => simp
  | line n d p => cases p <;> simp

/-- Settles O26: the bytes of Table 10-8, each read back bit by bit. -/
theorem queryReportsContext : Obligations.QueryReportsContext := by
  unfold Obligations.QueryReportsContext
  intro s h b c given number owned
  obtain ⟨state, zero, owner, high⟩ := stateByte_reads (s.ctx c).state h
  obtain ⟨p0, p1, p2, p3, p4, p5, p6⟩ := Parts.byte_reads (s.ctx c).parts
  obtain ⟨armed, abort, suspend, clear⟩ :=
    flagsByte_reads (s.armedShown c) (s.ctx c).abortPending (s.ctx c).suspendPending
  refine ⟨_, _, _, ?_, state, zero, owner, high, p0, p1, p2, p3, p4, p5, p6, ?_, abort, suspend, clear⟩
  · refine congrArg Host.Outcome.next (State.take_answers given ?_ rfl)
    refine (State.onCtx_ok (State.ctxTest_accepted (by simpa using number) owned rfl) _).trans ?_
    rw [qryBytes, owned.2]
    rfl
  · rw [armed, State.armedShown_iff]

end Sys2Proof.Machine
end

section
/-! SUPPORT. RESET: what each block holds after it, and that the reset state is sound. -/

namespace Sys2Proof.Machine

/-! ## Reading the reset state -/

/-- The state that RESET leaves: the reset state, with the commands that wait and the model's counter kept (log 15). -/
def State.afterReset (s : State) : State := { State.reset with pending := s.pending, choices := s.choices }

theorem exec_reset (s : State) : exec .reset s = .next s.afterReset := rfl

@[simp] theorem State.ctx_afterReset (s : State) (c : CtxNo) : s.afterReset.ctx c = Ctx.reset := Vector.getElem_replicate ..

@[simp] theorem State.window_afterReset (s : State) (w : WinNo) : s.afterReset.window w = Window.reset :=
  Vector.getElem_replicate ..

@[simp] theorem State.line_afterReset (s : State) (n : LineNo) : s.afterReset.line n = Line.reset := Vector.getElem_replicate ..

@[simp] theorem State.port_afterReset (s : State) (h : HostNo) : s.afterReset.port h = Port.reset := Vector.getElem_replicate ..

@[simp] theorem State.cq_afterReset (s : State) (h : HostNo) : s.afterReset.cq h = Cq.reset := Vector.getElem_replicate ..

@[simp] theorem State.wd_afterReset (s : State) (h : HostNo) : s.afterReset.wd h = none := Vector.getElem_replicate ..

@[simp] theorem State.readyList_afterReset (s : State) (h : HostNo) : s.afterReset.readyList h = [] :=
  Vector.getElem_replicate ..

@[simp] theorem State.weight_afterReset (s : State) (h : HostNo) : s.afterReset.weight h = 1 := Vector.getElem_replicate ..

@[simp] theorem State.engine_afterReset (s : State) : s.afterReset.engine = Engine.reset := rfl

@[simp] theorem State.sched_afterReset (s : State) : s.afterReset.sched = Sched.reset := rfl

/-- Settles O4: every block reads its reset value. -/
theorem resetClearsEveryBlock : Obligations.ResetClearsEveryBlock := by
  unfold Obligations.ResetClearsEveryBlock
  intro s
  refine ⟨s.afterReset, exec_reset s, fun c => ?_, fun w => ?_, fun h => ?_, rfl, rfl, rfl, rfl, rfl, rfl, rfl, rfl, rfl, rfl,
    rfl, rfl, fun h => ?_, fun n => ?_, fun h => ?_, rfl, rfl⟩
  · rw [State.ctx_afterReset]
    simp [Ctx.reset, Parts.empty]
  · rw [State.window_afterReset]
    simp [Window.reset]
  · exact ⟨State.readyList_afterReset s h, State.weight_afterReset s h⟩
  · rw [State.cq_afterReset]
    simp [Cq.reset]
  · exact State.line_afterReset s n
  · have status : s.afterReset.statusByte h = 0 := by
      simp [State.statusByte, State.atn, State.hld, Port.busy, Port.reset, Cq.reset, bitAt]
    rw [status]
    simp [State.atn, Port.reset, Cq.reset]

/-! ## The reset state is sound -/

theorem Engine.reset_sound : EngineSound Engine.reset where
  serving := rfl
  beat := by decide
  own := by decide
  owned := by decide
  request := by decide
  losing := by decide
  empty _ := ⟨rfl, rfl⟩
  service v e := by cases e

theorem State.reset_table (s : State) : TableSound s.afterReset where
  owned c := by simp [Ctx.reset]
  ready h c := by simp [Ctx.reset]
  readyOnce h := by simp
  active c := by simp [Ctx.reset, Engine.reset]
  held h c := by simp [Ctx.reset, Cq.reset]
  heldOnce h := by simp [Cq.reset]
  heldFull h := by simp [Cq.reset]
  pendingEnd c := by simp [Ctx.reset]
  abortPending c := by simp [Ctx.reset]
  suspendPending c := by simp [Ctx.reset]
  cut h w c e := by simp at e
  gone h w c e := by simp at e

theorem State.reset_counts (s : State) : s.afterReset.countsSound := fun c => by
  rw [State.ctx_afterReset]
  constructor <;> decide

theorem State.reset_port (s : State) (h : HostNo) : PortSound (s.afterReset.port h) (s.afterReset.wd h) := by
  rw [State.port_afterReset, State.wd_afterReset]
  constructor <;> decide

theorem State.reset_core (s : State) : CoreSound s.afterReset where
  queues h := by simp [Cq.reset]
  ports := State.reset_port s
  engine := Engine.reset_sound
  table := State.reset_table s
  service v e := by cases e
  counts := State.reset_counts s

theorem State.reset_uses (s : State) (w : WinNo) : s.afterReset.uses w = 0 := by
  simp [State.uses, Ctx.reset, CtxState.started]

theorem State.reset_refs (s : State) : s.afterReset.refsSound := fun w => by
  rw [State.reset_uses, State.window_afterReset]
  rfl

theorem State.reset_lines (s : State) : s.afterReset.linesSound := fun n c => by
  simp [Line.reset, Ctx.reset, CtxState.started]

theorem State.reset_eligible (s : State) : s.afterReset.anyEligible = false := by
  simp [State.anyEligible, State.eligible, hosts]

/-- Settles O3: nothing is claimed, opened, bound, listed or in flight after RESET. -/
theorem resetStateSound : Obligations.ResetStateSound where
  core := State.reset_core State.reset
  ring := ⟨fun h => by rw [show State.reset.weight h = 1 from State.weight_afterReset State.reset h]; decide, by decide, by decide⟩
  windows w := by
    rw [show State.reset.window w = Window.reset from State.window_afterReset State.reset w]
    exact ⟨by decide, fun e => absurd e (by decide), by decide, by decide, by decide⟩
  refs := State.reset_refs State.reset
  lines := State.reset_lines State.reset
  work := ⟨(State.reset_eligible State.reset).symm, fun _ => State.reset_eligible State.reset, fun e => absurd e (by decide)⟩
  fence := ⟨fun c started => absurd started (by
      rw [show State.reset.ctx c = Ctx.reset from State.ctx_afterReset State.reset c]; decide), fun v e => by cases e⟩

end Sys2Proof.Machine
end

section
/-! SUPPORT. Run ends (chapter 8): what a reload, a release, a posting and a held end each do, and the statement about them. -/

namespace Sys2Proof.Machine

/-! ## Writing a context twice -/

@[simp] theorem State.setCtx_setCtx (s : State) (c : CtxNo) (x y : Ctx) : (s.setCtx c x).setCtx c y = s.setCtx c y := by
  simp [State.setCtx]

/-! ## Reload (R138) -/

theorem State.reload_eq (s : State) (c : CtxNo) (h : HostNo) :
    s.reload c h =
      if (s.ctx c).suspendPending = true then s.setCtx c (s.ctx c).reloaded
      else (s.setCtx c (s.ctx c).reloaded).enterTail h c := by
  rw [State.reload, Ctx.restart_eq, Ctx.reloaded]
  split <;> rfl

theorem State.ctx_reload (s : State) (c : CtxNo) (h : HostNo) (d : CtxNo) :
    (s.reload c h).ctx d = if d = c then (s.ctx c).reloaded else s.ctx d := by
  rw [State.reload_eq]
  split <;> simp [State.ctx_setCtx]

theorem State.readyList_reload (s : State) (c : CtxNo) (h : HostNo) (g : HostNo) :
    (s.reload c h).readyList g =
      if g = h ∧ (s.ctx c).suspendPending = false then s.readyList h ++ [c] else s.readyList g := by
  rw [State.reload_eq]
  cases (s.ctx c).suspendPending <;> simp [State.readyList_enterTail]

/-! ## Release (R6, R23) -/

/-- One role use given up: the count goes down, and an ORPHAN window that reaches 0 closes (R40, R45). -/
theorem Window.release_eq (w : Window) :
    w.release =
      if w.state = .orphan ∧ w.refs ≤ 1 then
        { w with state := .closed, creator := none, share := 0, learned := none, demoted := false, refs := 0 }
      else { w with refs := w.refs - 1 } := by
  unfold Window.release Window.close
  by_cases last : w.refs ≤ 1
  · simp [last, Nat.sub_eq_zero_of_le last]
  · simp [last, Nat.sub_eq_zero_iff_le]

/-- Two uses given up, of a window that a context names in both roles (R40). -/
theorem Window.release_release_eq (w : Window) :
    w.release.release =
      if w.state = .orphan ∧ w.refs ≤ 2 then
        { w with state := .closed, creator := none, share := 0, learned := none, demoted := false, refs := 0 }
      else { w with refs := w.refs - 2 } := by
  rw [Window.release_eq, Window.release_eq]
  by_cases orphan : w.state = .orphan
  · by_cases one : w.refs ≤ 1
    · have two : w.refs ≤ 2 := by omega
      simp [orphan, one, two]
    · simp [orphan, one, Nat.sub_sub]
  · simp [orphan, Nat.sub_sub]

/-- A type names windows in at most two roles. -/
theorem Ctx.roles_le_two (x : Ctx) (w : WinNo) : x.roles w ≤ 2 := by
  unfold Ctx.roles
  split <;> split <;> omega

theorem State.line_releaseResources (s : State) (c : CtxNo) (n : LineNo) :
    (s.releaseResources c).line n =
      if (s.ctx c).trigger.lineNo = some n ∧ (s.line n).bound = some c then { s.line n with bound := none, armed := false }
      else s.line n := by
  have ctxs : ((s.ctx c).usedWindows.foldl State.releaseRef s).ctx c = s.ctx c :=
    foldl_keeps State.releaseRef (·.ctx c) (fun t w => State.ctx_releaseRef t w c) _ _
  have lines : ((s.ctx c).usedWindows.foldl State.releaseRef s).line n = s.line n :=
    foldl_keeps State.releaseRef (·.line n) (fun t w => State.line_releaseRef t w n) _ _
  rw [State.releaseResources, State.line_unbindLine, ctxs, lines]

/-- A context that leaves the started states gives its resources up (R6). -/
theorem State.releaseResources_released (s : State) (c : CtxNo) : Released s (s.releaseResources c) c where
  windows w := by
    rw [State.window_releaseResources]
    have two := (s.ctx c).roles_le_two w
    split
    · next none => simp [none]
    · next one => simp [one, Window.release_eq]
    · next none one =>
      have both : (s.ctx c).roles w = 2 := by
        have : (s.ctx c).roles w ≠ 0 := none
        have : (s.ctx c).roles w ≠ 1 := one
        omega
      simp [both, Window.release_release_eq]
  lines := State.line_releaseResources s c

theorem State.ctx_toClaimed (s : State) (c d : CtxNo) :
    (s.toClaimed c).ctx d = if d = c then (s.ctx c).claimedAgain else s.ctx d := by
  simp [State.toClaimed, State.ctx_setCtx, Ctx.claimedAgain]

theorem State.toClaimed_released (s : State) (c : CtxNo) : Released s (s.toClaimed c) c :=
  ⟨(State.releaseResources_released s c).windows, (State.releaseResources_released s c).lines⟩

/-- The state with its windows and lines put aside: what the taking and the giving up of resources leave alone. -/
def State.withoutResources (s : State) (windows : Vector Window 8) (lines : Vector Line 8) : State :=
  { s with windows := windows, lines := lines }

theorem State.withoutResources_unbindLine (s : State) (c : CtxNo) (windows : Vector Window 8) (lines : Vector Line 8) :
    (s.unbindLine c).withoutResources windows lines = s.withoutResources windows lines := by
  unfold State.unbindLine
  split
  · split <;> rfl
  · rfl

/-- The giving up of resources writes the windows and the lines, and nothing else. -/
theorem State.releaseResources_frame (s : State) (c : CtxNo) :
    s.releaseResources c = { s with
      windows := (s.releaseResources c).windows, lines := (s.releaseResources c).lines } := by
  have kept : (s.releaseResources c).withoutResources s.windows s.lines = s :=
    (State.withoutResources_unbindLine ..).trans
      (foldl_keeps State.releaseRef (·.withoutResources s.windows s.lines) (fun _ _ => rfl) _ _)
  exact congrArg (·.withoutResources (s.releaseResources c).windows (s.releaseResources c).lines) kept

/-- The release of a context writes the contexts, the windows and the lines, and nothing else. -/
theorem State.toClaimed_frame (s : State) (c : CtxNo) :
    s.toClaimed c = { s with
      ctxs := (s.toClaimed c).ctxs, windows := (s.toClaimed c).windows, lines := (s.toClaimed c).lines } := by
  rw [State.toClaimed, State.releaseResources_frame]
  rfl

/-! ## The disposition at a posting (R136, step 2) -/

theorem State.dispose_repeating {s : State} {c : CtxNo} {k : Cause} (ordinary : k.ordinary = true)
    (rep : (s.ctx c).rep = true) (h : HostNo) : s.dispose c h k = (s.reload c h, .reloaded) := by
  simp [State.dispose, ordinary, rep]

theorem State.dispose_plain {s : State} {c : CtxNo} {k : Cause}
    (plain : k.ordinary = false ∨ (s.ctx c).rep = false ∧ (s.ctx c).parts.link = false) (h : HostNo) :
    s.dispose c h k = (s.toClaimed c, .plain) := by
  rcases plain with other | ⟨rep, link⟩
  · simp [State.dispose, other]
  · simp [State.dispose, rep, link]

theorem State.dispose_taken {s : State} {c : CtxNo} {h : HostNo} {k : Cause} (ordinary : k.ordinary = true)
    (rep : (s.ctx c).rep = false) (link : (s.ctx c).parts.link = true)
    (may : ((s.toClaimed c).ctx (s.ctx c).link).owner = some h ∧ MayStart (s.toClaimed c) (s.ctx c).link h) :
    s.dispose c h k = ((s.toClaimed c).takeStart (s.ctx c).link h, .linkTaken) := by
  rw [← State.startCheck_none] at may
  simp [State.dispose, ordinary, rep, link, may]

theorem State.dispose_refused {s : State} {c : CtxNo} {h : HostNo} {k : Cause} (ordinary : k.ordinary = true)
    (rep : (s.ctx c).rep = false) (link : (s.ctx c).parts.link = true)
    (mayNot : ¬(((s.toClaimed c).ctx (s.ctx c).link).owner = some h ∧ MayStart (s.toClaimed c) (s.ctx c).link h)) :
    s.dispose c h k = (s.toClaimed c, .linkRefused) := by
  rw [← State.startCheck_none] at mayNot
  simp only [State.dispose, ordinary, rep, link, Bool.and_false, Bool.and_true, Bool.false_eq_true, if_false, if_true]
  rw [if_neg mayNot]

/-! ## Posting and holding -/

theorem State.cq_post (s : State) (c : CtxNo) (h : HostNo) (e : RunEnd) (g : HostNo) :
    (s.post c h e).cq g =
      if g = h then
        { s.cq h with
          queue := (s.cq h).queue ++ [{ recordOf c e (s.ctx c) (s.dispose c h e.cause).2 with seq := (s.cq h).nextSeq }]
          nextSeq := (s.cq h).nextSeq + 1 }
      else s.cq g := by
  simp [State.post, State.pushRecord, State.cq_setCq]

@[simp] theorem State.ctx_post (s : State) (c : CtxNo) (h : HostNo) (e : RunEnd) (d : CtxNo) :
    (s.post c h e).ctx d = (s.dispose c h e.cause).1.ctx d := rfl

@[simp] theorem State.window_post (s : State) (c : CtxNo) (h : HostNo) (e : RunEnd) (w : WinNo) :
    (s.post c h e).window w = (s.dispose c h e.cause).1.window w := rfl

@[simp] theorem State.line_post (s : State) (c : CtxNo) (h : HostNo) (e : RunEnd) (n : LineNo) :
    (s.post c h e).line n = (s.dispose c h e.cause).1.line n := rfl

@[simp] theorem State.readyList_post (s : State) (c : CtxNo) (h : HostNo) (e : RunEnd) (g : HostNo) :
    (s.post c h e).readyList g = (s.dispose c h e.cause).1.readyList g := rfl

theorem State.runEnds_posted {s : State} {h : HostNo} (room : (s.cq h).queue.length < queueDepth) (c : CtxNo) (e : RunEnd) :
    s.runEnds c h e = (s.setCtx c { s.ctx c with abortPending := false }).post c h e :=
  if_pos room

theorem State.runEnds_held {s : State} {h : HostNo} (full : queueDepth ≤ (s.cq h).queue.length) (c : CtxNo) (e : RunEnd) :
    s.runEnds c h e = ((s.setCtx c { s.ctx c with abortPending := false, state := .held, pendingEnd := some e }).setCq h
      { s.cq h with held := (s.cq h).held ++ [c] }) := by
  refine (if_neg (Nat.not_lt.2 full)).trans ?_
  rw [State.hold, State.setCtx_setCtx, State.ctx_setCtx_self]
  rfl

/-- Settles O36: a run end is posted or held by the room in the queue, and a posting disposes of its context by the cause and by
the repeat and link parts. -/
theorem runEndPostedOrHeld : Obligations.RunEndPostedOrHeld := by
  unfold Obligations.RunEndPostedOrHeld
  refine ⟨fun k => by cases k <;> decide, fun s c h e => ⟨fun room => State.runEnds_posted room c e,
    fun full => State.runEnds_held full c e⟩, fun s c h e => ?_⟩
  refine ⟨{ recordOf c e (s.ctx c) (s.dispose c h e.cause).2 with seq := (s.cq h).nextSeq }, by rw [State.cq_post, if_pos rfl],
    fun g other => by rw [State.cq_post, if_neg other], rfl, fun ordinary rep => ?_, fun plain => ?_,
    fun ordinary rep link => ?_⟩
  · have disposed := State.dispose_repeating ordinary rep h
    refine ⟨by simp [disposed, recordOf], by simp [disposed, recordOf], by simp [disposed, recordOf], fun d => ?_, fun w => ?_,
      fun n => ?_, fun g => ?_⟩
    · rw [State.ctx_post, disposed, State.ctx_reload]
    · rw [State.window_post, disposed, State.window_reload]
    · rw [State.line_post, disposed, State.line_reload]
    · rw [State.readyList_post, disposed, State.readyList_reload]
  · have disposed := State.dispose_plain plain h
    refine ⟨by simp [disposed, recordOf], by simp [disposed, recordOf], by simp [disposed, recordOf], ⟨fun w => ?_, fun n => ?_⟩,
      fun d => ?_, fun g => ?_⟩
    · rw [State.window_post, disposed, (State.toClaimed_released s c).windows]
    · rw [State.line_post, disposed, (State.toClaimed_released s c).lines]
    · rw [State.ctx_post, disposed, State.ctx_toClaimed]
    · rw [State.readyList_post, disposed, State.readyList_toClaimed]
  · refine ⟨s.toClaimed c, State.toClaimed_released s c, State.toClaimed_frame s c, State.ctx_toClaimed s c, ?_, fun may => ?_,
      fun mayNot => ?_⟩
    · have : ∀ p : State × Posted, p = s.dispose c h e.cause → p.2 ≠ .reloaded := by
        rintro p rfl
        by_cases may : ((s.toClaimed c).ctx (s.ctx c).link).owner = some h ∧ MayStart (s.toClaimed c) (s.ctx c).link h
        · simp [State.dispose_taken ordinary rep link may]
        · simp [State.dispose_refused ordinary rep link may]
      simpa [recordOf] using this _ rfl
    · have disposed := State.dispose_taken ordinary rep link may
      have started := State.takeStart_started (s.toClaimed c) (s.ctx c).link h
      refine ⟨by simp [disposed, recordOf], by simp [disposed, recordOf], ⟨?_, fun w => ?_, fun n => ?_, fun g => ?_⟩,
        fun d other => ?_⟩
      · rw [State.ctx_post, disposed, started.ctx]
      · rw [State.window_post, disposed, started.windows]
      · rw [State.line_post, disposed, started.lines]
      · rw [State.readyList_post, disposed, started.listed]
      · rw [State.ctx_post, disposed, State.ctx_takeStart, if_neg other]
    · have disposed := State.dispose_refused ordinary rep link mayNot
      refine ⟨by simp [disposed, recordOf], by simp [disposed, recordOf], fun d => ?_, fun w => ?_, fun n => ?_, fun g => ?_⟩
      · rw [State.ctx_post, disposed]
      · rw [State.window_post, disposed]
      · rw [State.line_post, disposed]
      · rw [State.readyList_post, disposed, State.readyList_toClaimed]

end Sys2Proof.Machine
end

section
/-! SUPPORT. Selection and the beginning of a service (chapter 3, R59, R68), read field by field. -/

namespace Sys2Proof.Machine

/-! ## The re-evaluation of work present (R62, R92) -/

/-- In a service state the re-evaluation writes the indication alone. -/
theorem State.reevaluate_serving {s : State} (serving : s.engine.state.serving = true) :
    s.reevaluate = s.setWork s.anyEligible := by
  unfold State.reevaluate
  cases e : s.engine.state <;> simp_all [EngState.serving]

/-- The re-evaluation writes of the engine the state and the request alone. -/
theorem State.engine_reevaluate (s : State) :
    s.reevaluate.engine = { s.engine with state := s.reevaluate.engine.state, lreq := s.reevaluate.engine.lreq } := by
  unfold State.reevaluate
  split
  · dsimp only
    split <;> rfl
  · dsimp only
    split <;> rfl
  · rfl

/-! ## The beginning of a service (R22, R59, R68) -/

theorem State.line_setArmed (s : State) (c : CtxNo) (b : Bool) (n : LineNo) :
    (s.setArmed c b).line n = if (s.ctx c).trigger.lineNo = some n then { s.line n with armed := b } else s.line n := by
  unfold State.setArmed
  cases (s.ctx c).trigger.lineNo with
  | none => simp
  | some m =>
    by_cases same : n = m
    · subst same; simp
    · simp [State.line_setLine, same, Ne.symm same]

theorem State.readyList_leaveReady (s : State) (h : HostNo) (c : CtxNo) (g : HostNo) :
    (s.leaveReady h c).readyList g = if g = h then (s.readyList h).erase c else s.readyList g :=
  State.readyList_setReady ..

/-- The disarming of a PACED context at its selection (R123). -/
def State.disarmed (s : State) (c : CtxNo) : State := if (s.ctx c).trigger.isPaced then s.setArmed c false else s

theorem State.disarmed_frame (s : State) (c : CtxNo) : s.disarmed c = { s with lines := (s.disarmed c).lines } := by
  unfold State.disarmed State.setArmed
  split
  · split <;> rfl
  · rfl

theorem State.line_disarmed (s : State) (c : CtxNo) (n : LineNo) :
    (s.disarmed c).line n =
      if (s.ctx c).trigger.isPaced = true ∧ (s.ctx c).trigger.lineNo = some n then { s.line n with armed := false }
      else s.line n := by
  unfold State.disarmed
  by_cases paced : (s.ctx c).trigger.isPaced = true
  · simp [paced, State.line_setArmed]
  · simp [paced]

/-- The engine at the beginning of a service: before its first strobe (R68). -/
def Engine.begun (e : Engine) (c : CtxNo) (x : Ctx) : Engine :=
  { e with
    state := if x.kind = .fill then .writing else .reading
    service := some (newService c x), buffer := [], partialByte := none, beat := none }

/-- The beginning of a service, step by step. -/
theorem State.beginService_eq {s : State} {c : CtxNo} {h : HostNo} (owner : (s.ctx c).owner = some h) (slot : Nat) :
    s.beginService slot c =
      ((((s.leaveReady h c).setCtx c { s.ctx c with state := .active }).disarmed c).setMark (some slot)).setEngine
        (s.engine.begun c (s.ctx c)) := by
  have armed := State.disarmed_frame ((s.leaveReady h c).setCtx c { s.ctx c with state := .active }) c
  simp only [State.beginService, owner, State.disarmed, State.ctx_setCtx_self] at armed ⊢
  split
  · rw [State.engine_setMark, State.engine_setArmed]
    rfl
  · rfl

theorem State.ctx_beginService (s : State) (slot : Nat) (c d : CtxNo) :
    (s.beginService slot c).ctx d = if d = c then { s.ctx c with state := .active } else s.ctx d := by
  unfold State.beginService
  dsimp only
  split <;> split <;> simp [State.ctx_setCtx]

section
variable {s : State} {c : CtxNo} {h : HostNo} (owner : (s.ctx c).owner = some h) (slot : Nat)
include owner

theorem State.readyList_beginService (g : HostNo) :
    (s.beginService slot c).readyList g = if g = h then (s.readyList h).erase c else s.readyList g := by
  rw [State.beginService_eq owner, State.disarmed_frame]
  exact State.readyList_leaveReady ..

theorem State.line_beginService (n : LineNo) :
    (s.beginService slot c).line n =
      if (s.ctx c).trigger.isPaced = true ∧ (s.ctx c).trigger.lineNo = some n then { s.line n with armed := false }
      else s.line n := by
  rw [State.beginService_eq owner, State.line_setEngine, State.line_setMark, State.line_disarmed, State.ctx_setCtx_self]
  rfl

theorem State.engine_beginService : (s.beginService slot c).engine = s.engine.begun c (s.ctx c) := by
  rw [State.beginService_eq owner]
  rfl

theorem State.beginService_frame :
    s.beginService slot c = { s with
      ctxs := (s.beginService slot c).ctxs, lines := (s.beginService slot c).lines, engine := s.engine.begun c (s.ctx c)
      sched := { s.sched with ready := (s.beginService slot c).sched.ready, mark := some slot } } := by
  rw [State.beginService_eq owner, State.disarmed_frame]
  rfl

end

/-! ## The first beat -/

/-- What the engine drives first: a beat at the current address of the side that comes first, and a planned burst (R68). -/
theorem State.issueBeat_fresh {s : State} {v : Service} (service : s.engine.service = some v) (whole : v.half = false) :
    ∃ (b : Beat) (n : Nat),
      s.issueBeat = s.setEngine { s.engine with beat := some b, service := some { v with burst := n } } ∧
      b.write = decide (s.engine.state ≠ .reading) ∧
      b.addr = if s.engine.state = .reading then v.readAddr else (s.ctx v.ctx).curDst := by
  unfold State.issueBeat
  rw [service]
  refine ⟨_, _, rfl, ?_, ?_⟩
  · simp
  · simp [whole]

theorem serviceLength_eq (x : Ctx) :
    serviceLength x = if x.trigger.isPaced = true then 1 else min x.residual.toNat (if x.unit = .two then 8 else 16) := by
  unfold serviceLength
  cases x.unit <;> rfl

/-- Where a selection finds a context, it is in a service state with a new record, the first beat in flight or still to come. -/
theorem State.selectNow_chosen {s : State} {slot : Nat} {c : CtxNo} {h : HostNo} (chosen : s.choose = some (slot, c))
    (owner : (s.ctx c).owner = some h) (strobe : Bool) :
    ∃ (beat : Option Beat) (n : Nat) (work : Bool),
      s.selectNow strobe = ((s.beginService slot c).setEngine { s.engine.begun c (s.ctx c) with
        beat := beat, service := some { newService c (s.ctx c) with burst := n } }).setWork work ∧
      (strobe = false → beat = none ∧ n = 0) ∧
      (strobe = true → ∃ b, beat = some b ∧ b.write = decide ((s.ctx c).kind = .fill) ∧
        b.addr = if (s.ctx c).kind = .fill then (s.ctx c).curDst else (s.ctx c).curSrc) := by
  have engine := State.engine_beginService owner slot
  have shape : s.selectNow strobe =
      (if strobe then (s.beginService slot c).issueBeat else s.beginService slot c).reevaluate := by
    rw [State.selectNow, chosen]
  have serving : (s.engine.begun c (s.ctx c)).state.serving = true := by
    unfold Engine.begun
    cases (s.ctx c).kind <;> rfl
  cases strobe with
  | false =>
    refine ⟨none, 0, (s.beginService slot c).anyEligible, ?_, fun _ => ⟨rfl, rfl⟩, nofun⟩
    have same : (s.beginService slot c).setEngine { s.engine.begun c (s.ctx c) with
        beat := none, service := some { newService c (s.ctx c) with burst := 0 } } = s.beginService slot c :=
      congrArg _ engine.symm
    rw [shape, same, if_neg (by decide), State.reevaluate_serving (by rw [engine]; exact serving)]
  | true =>
    obtain ⟨b, n, issued, write, addr⟩ := State.issueBeat_fresh (s := s.beginService slot c) (v := newService c (s.ctx c))
      (by rw [engine]; rfl) rfl
    rw [engine] at issued write addr
    refine ⟨some b, n, (s.beginService slot c).issueBeat.anyEligible, ?_, nofun, fun _ => ⟨b, rfl, ?_, ?_⟩⟩
    · rw [shape, if_pos rfl, State.reevaluate_serving (by rw [issued]; exact serving), issued]
    · rw [write]
      unfold Engine.begun
      cases (s.ctx c).kind <;> rfl
    · rw [addr, State.ctx_beginService]
      unfold Engine.begun
      cases e : (s.ctx c).kind <;> simp [newService]

theorem State.selectNow_none {s : State} (none : s.choose = none) (strobe : Bool) : s.selectNow strobe = s.releaseBus := by
  rw [State.selectNow, none]

/-- A selection that is due is made now, with or without its first strobe, or waits (log 7). -/
theorem State.select_cases (s : State) :
    s.select = s.countChoice.reevaluate ∨ ∃ strobe, s.select = s.countChoice.selectNow strobe := by
  unfold State.select
  split
  · exact .inl rfl
  · exact .inr ⟨_, rfl⟩

/-- Settles O34: what `beginService` and the first beat write, read field by field. -/
theorem selectionBeginsService : Obligations.SelectionBeginsService := by
  unfold Obligations.SelectionBeginsService
  intro s
  refine ⟨State.select_cases s, fun strobe slot c h chosen owner => ?_, fun none strobe => State.selectNow_none none strobe⟩
  obtain ⟨beat, n, work, made, before, first⟩ := State.selectNow_chosen chosen owner strobe
  refine ⟨s.selectNow strobe, { newService c (s.ctx c) with burst := n }, beat, rfl, ?_, ?_, before, first, fun d => ?_,
    fun g => ?_, fun m => ?_, ?_, ?_⟩
  · rw [made]
    rfl
  · rw [← serviceLength_eq]
    rfl
  · rw [made]
    exact State.ctx_beginService s slot c d
  · rw [made]
    exact State.readyList_beginService owner slot g
  · rw [made]
    exact State.line_beginService owner slot m
  · rw [made, State.beginService_frame owner]
    rfl
  · rw [made, State.beginService_frame owner]
    rfl

end Sys2Proof.Machine
end

section
/-! SUPPORT. The end of a service (R22, R60, R77, R112), and the abort that reaches one (R113 to R115). -/

namespace Sys2Proof.Machine

/-! ## What the bus sees of an answer -/

/-- The handing over of a waiting command's answer writes of the engine the state and the request alone. -/
theorem State.engine_beginDue (s : State) (h : HostNo) :
    (s.beginDue h).engine =
      { s.engine with state := (s.beginDue h).engine.state, lreq := (s.beginDue h).engine.lreq } := by
  unfold State.beginDue
  split
  · split
    · exact State.engine_reevaluate _
    · rfl
  · rfl

theorem State.engine_deliver (s : State) (h : HostNo) (l : List Byte) :
    (s.deliver h l).engine =
      { s.engine with state := (s.deliver h l).engine.state, lreq := (s.deliver h l).engine.lreq } := by
  unfold State.deliver
  dsimp only
  split
  · rfl
  · exact State.engine_beginDue _ _

theorem State.engine_answerWaiter (s : State) (c : CtxNo) :
    (s.answerWaiter c).engine =
      { s.engine with state := (s.answerWaiter c).engine.state, lreq := (s.answerWaiter c).engine.lreq } := by
  unfold State.answerWaiter
  split
  · split
    · split
      · exact State.engine_deliver _ _ _
      · rfl
    · rfl
  · rfl

@[simp] theorem State.holdsGrant_answerWaiter (s : State) (c : CtxNo) : (s.answerWaiter c).holdsGrant = s.holdsGrant := by
  unfold State.holdsGrant
  rw [State.engine_answerWaiter]

theorem State.holdsGrant_iff (s : State) : s.holdsGrant = true ↔ s.engine.lown = true ∧ s.engine.losing = none := by
  simp [State.holdsGrant]

/-! ## Leaving the bus (R93, R95) -/

/-- The bus given up and work present looked at again, before a grant asserted meanwhile is taken. -/
def State.busLeft (s : State) : State :=
  (s.setEngine { s.engine with state := .asking, beat := none, lown := false, lreq := true, losing := none }).reevaluate

theorem State.leaveBus_eq (s : State) :
    s.leaveBus = if (s.busLeft.engine.lgnt && s.busLeft.engine.lreq) = true then s.busLeft.takeGrant else s.busLeft := rfl

theorem State.lgnt_busLeft (s : State) : s.busLeft.engine.lgnt = s.engine.lgnt := by
  rw [State.busLeft, State.engine_reevaluate]
  rfl

/-- The request stands after the bus is left exactly where the engine asks. -/
theorem State.busLeft_asking {s : State} (asks : s.busLeft.engine.lreq = true) : s.busLeft.engine.state = .asking := by
  have other : ∀ t : State, t.engine.state = .asking → t.engine.lown = false → t.reevaluate.engine.lreq = true →
      t.reevaluate.engine.state = .asking := by
    intro t asking off
    unfold State.reevaluate
    rw [asking]
    dsimp only
    split
    · simp
    · simp [asking]
  exact other _ rfl rfl asks

theorem State.takeGrant_asking {s : State} (asking : s.engine.state = .asking) :
    s.takeGrant = (s.setEngine { s.engine with lown := true }).select := by
  rw [State.takeGrant, asking]

/-- A grant that is not asserted, or not asked for, is not taken as the bus is left. -/
theorem State.leaveBus_left {s : State} (off : s.engine.lgnt = false ∨ s.busLeft.engine.lreq = false) :
    s.leaveBus = s.busLeft := by
  rw [State.leaveBus_eq, State.lgnt_busLeft]
  refine if_neg ?_
  rcases off with off | off <;> simp [off]

/-- A grant asserted again before LOWN fell is a new arrival, at which the Scheduler selects (log 8). -/
theorem State.leaveBus_regranted {s : State} (granted : s.engine.lgnt = true) (asks : s.busLeft.engine.lreq = true) :
    s.leaveBus = (s.busLeft.setEngine { s.busLeft.engine with lown := true }).select := by
  rw [State.leaveBus_eq, State.lgnt_busLeft, granted, asks, State.takeGrant_asking (State.busLeft_asking asks)]
  rfl

/-! ## The end of a service -/

theorem State.movePointer_eq (s : State) : s.movePointer = s.pointerMoved := by
  unfold State.movePointer State.pointerMoved
  cases s.sched.mark <;> rfl

/-- The service removed and the pointer moved: the state in which the outcome is handed over. -/
theorem State.dropService_movePointer (s : State) : s.dropService.movePointer = s.withoutService.pointerMoved :=
  State.movePointer_eq _

/-- What is read of the state in which the outcome is handed over. -/
theorem State.pointerMoved_frame (s : State) :
    s.pointerMoved = { s with sched := { s.sched with pointer := s.pointerMoved.sched.pointer, mark := none } } := by
  unfold State.pointerMoved
  cases e : s.sched.mark with
  | some m => rfl
  | none =>
    cases s with
    | mk ctxs windows sched engine cqs lines ports wds choices pending => cases sched; simp_all

theorem State.endService_completed {s : State} {v : Service} (service : s.engine.service = some v)
    (none : v.runEnd (s.abortSet v) = none) :
    s.endService = (((s.withoutService.pointerMoved).placeCompleted v.ctx).answerWaiter v.ctx).afterService := by
  simp only [State.endService, service, none, State.dropService_movePointer]

/-- The end of a service with a run end: the order of the posting and the selection is free where the posting changes a ready
list and a selection may follow (log 6). -/
theorem State.endService_ended {s : State} {v : Service} {e : RunEnd} (service : s.engine.service = some v)
    (ended : v.runEnd (s.abortSet v) = some e) :
    s.endService =
      let t := s.withoutService.pointerMoved.endRun v.ctx e
      if t.sched.ready = s.withoutService.pointerMoved.sched.ready ∨ (s.holdsGrant || s.engine.lgnt) = false then t.afterService
      else if Config.selectionFirst s.choices = true then
        ((s.withoutService.pointerMoved.countChoice.afterService).endRun v.ctx e).reevaluate
      else t.countChoice.afterService := by
  simp only [State.endService, service, ended, State.dropService_movePointer]

theorem State.placeCompleted_owned {s : State} {c : CtxNo} {h : HostNo} (owner : (s.ctx c).owner = some h) :
    s.placeCompleted c =
      if (s.ctx c).suspendPending = true then s.setCtx c { s.ctx c with state := .suspended, suspendPending := false }
      else (s.setCtx c { s.ctx c with state := .ready }).enterTail h c := by
  simp only [State.placeCompleted, owner]

theorem State.endRun_owned {s : State} {c : CtxNo} {h : HostNo} (owner : (s.ctx c).owner = some h) (e : RunEnd) :
    s.endRun c e = (s.runEnds c h e).answerWaiter c := by
  simp only [State.endRun, owner]

/-- A service without a cause has no run end. -/
theorem Service.runEnd_none {v : Service} (undecided : v.endDecided = none) (sound : v.failure = none) :
    v.runEnd false = none := by
  simp [Service.runEnd, undecided, sound]

/-- The cause of a run end: the end decided, else the failure, else ABORT (R112). -/
theorem Service.runEnd_some {v : Service} {abort : Bool} {e : RunEnd} (drainLost : e.drainLost = v.drainLost)
    (dataLost : e.dataLost = v.dataLost)
    (cause : v.endDecided = some e.cause ∧ e.wph = false ∧ e.faultAddr = none ∨
      v.endDecided = none ∧ (∃ f, v.failure = some f ∧ e.cause = f.cause ∧ e.wph = decide (f.phase = .write) ∧
        e.faultAddr = some f.addr) ∨
      v.endDecided = none ∧ v.failure = none ∧ abort = true ∧ e.cause = .abort ∧ e.wph = false ∧ e.faultAddr = none) :
    v.runEnd abort = some e := by
  obtain ⟨k, wph, drain, data, addr⟩ := e
  dsimp only at drainLost dataLost cause
  subst drainLost dataLost
  rcases cause with ⟨decided, rfl, rfl⟩ | ⟨undecided, f, failed, rfl, rfl, rfl⟩ | ⟨undecided, sound, set, rfl, rfl, rfl⟩
  · simp [Service.runEnd, decided]
  · simp [Service.runEnd, undecided, failed]
  · simp [Service.runEnd, undecided, sound, set]

/-- What follows the hand-over of an outcome. -/
theorem State.afterService_eq (s : State) : s.afterService = if s.holdsGrant = true then s.select else s.leaveBus := rfl

theorem State.holdsGrant_pointerMoved (s : State) : s.pointerMoved.holdsGrant = s.holdsGrant := by
  rw [State.pointerMoved_frame]
  rfl

theorem State.ready_pointerMoved (s : State) : s.pointerMoved.sched.ready = s.sched.ready := by
  rw [State.pointerMoved_frame]

/-- A context through a selection: as it was, or ACTIVE. -/
def Ctx.sameOrBegun (x y : Ctx) : Prop := y = x ∨ y = { x with state := .active }

theorem State.ctx_selectNow (s : State) (strobe : Bool) (d : CtxNo) : (s.ctx d).sameOrBegun ((s.selectNow strobe).ctx d) := by
  unfold State.selectNow
  split
  · next slot c chosen =>
    have begun : (s.ctx d).sameOrBegun ((s.beginService slot c).ctx d) := by
      rw [State.ctx_beginService]
      split
      · next same => subst same; exact .inr rfl
      · exact .inl rfl
    cases strobe <;> simpa using begun
  · exact .inl (by simp)

theorem State.ctx_select (s : State) (d : CtxNo) : (s.ctx d).sameOrBegun (s.select.ctx d) := by
  rcases s.select_cases with waits | ⟨strobe, now⟩
  · rw [waits]
    exact .inl (by simp)
  · rw [now]
    exact State.ctx_selectNow s.countChoice strobe d

theorem State.ctx_leaveBus (s : State) (d : CtxNo) : (s.ctx d).sameOrBegun (s.leaveBus.ctx d) := by
  by_cases regranted : s.engine.lgnt = true ∧ s.busLeft.engine.lreq = true
  · rw [State.leaveBus_regranted regranted.1 regranted.2]
    have := State.ctx_select (s.busLeft.setEngine { s.busLeft.engine with lown := true }) d
    simpa [State.busLeft] using this
  · rw [not_and_or, Bool.not_eq_true, Bool.not_eq_true] at regranted
    rw [State.leaveBus_left regranted]
    exact .inl (by simp [State.busLeft])

theorem State.ctx_afterService (s : State) (d : CtxNo) : (s.ctx d).sameOrBegun (s.afterService.ctx d) := by
  rw [State.afterService_eq]
  split
  · exact State.ctx_select s d
  · exact State.ctx_leaveBus s d

theorem Ctx.sameOrBegun.owner {x y : Ctx} (begun : x.sameOrBegun y) : y.owner = x.owner := by
  rcases begun with rfl | rfl <;> rfl

theorem Ctx.sameOrBegun.abortPending {x y : Ctx} (begun : x.sameOrBegun y) : y.abortPending = x.abortPending := by
  rcases begun with rfl | rfl <;> rfl

theorem State.holdsGrant_false {s : State} (off : s.engine.lown = false ∨ s.engine.losing ≠ none) : s.holdsGrant = false := by
  rw [Bool.eq_false_iff, Ne, State.holdsGrant_iff, not_and_or]
  rcases off with off | off <;> simp [off]

/-- Settles O46: the bus left, the service completed, and the service ended with a cause. -/
theorem serviceEnds : Obligations.ServiceEnds := by
  unfold Obligations.ServiceEnds
  refine ⟨fun s r left => ?_, fun s v h service owner => ?_⟩
  · subst left
    exact ⟨State.leaveBus_left, State.leaveBus_regranted⟩
  have ctx : s.withoutService.pointerMoved.ctx v.ctx = s.ctx v.ctx := by rw [State.pointerMoved_frame]; rfl
  have list : s.withoutService.pointerMoved.readyList h = s.readyList h := by rw [State.pointerMoved_frame]; rfl
  have grant : s.withoutService.pointerMoved.holdsGrant = s.holdsGrant := State.holdsGrant_pointerMoved _
  refine ⟨fun undecided sound clear => ?_, fun e drainLost dataLost cause => ?_⟩
  · have completed := State.endService_completed service (by rw [State.abortSet, clear]; exact Service.runEnd_none undecided sound)
    rw [State.placeCompleted_owned (by rw [ctx]; exact owner), ctx, State.enterTail, State.readyList_setCtx, list] at completed
    refine ⟨_, rfl, fun own keeps => completed.trans ?_, fun off => completed.trans ?_⟩
    · rw [State.afterService_eq, if_pos]
      rw [State.holdsGrant_answerWaiter, ← (State.holdsGrant_iff s).2 ⟨own, keeps⟩, ← grant]
      split <;> rfl
    · rw [State.afterService_eq, if_neg]
      rw [State.holdsGrant_answerWaiter, Bool.not_eq_true, ← State.holdsGrant_false off, ← grant]
      split <;> rfl
  · have ended := State.endService_ended service (Service.runEnd_some (abort := s.abortSet v) drainLost dataLost cause)
    have go : ∀ t : State, t.holdsGrant = s.holdsGrant →
        t.afterService = (if s.holdsGrant = true then State.select else State.leaveBus) t := by
      intro t same
      rw [State.afterService_eq, same]
      split <;> rfl
    have posted : ∀ t : State, (t.ctx v.ctx).owner = some h → t.endRun v.ctx e = (t.runEnds v.ctx h e).answerWaiter v.ctx :=
      fun t owner => State.endRun_owned owner e
    have held : ((s.withoutService.pointerMoved.runEnds v.ctx h e).answerWaiter v.ctx).holdsGrant = s.holdsGrant := by
      rw [State.holdsGrant_answerWaiter, ← grant]
      simp [State.holdsGrant]
    rw [posted _ (by rw [ctx]; exact owner), State.ready_pointerMoved] at ended
    dsimp only at ended
    refine ⟨_, if s.holdsGrant = true then State.select else State.leaveBus, rfl, fun own keeps => ?_, fun off => ?_,
      fun same => ?_, fun off low => ?_, ?_⟩
    · rw [if_pos ((State.holdsGrant_iff s).2 ⟨own, keeps⟩)]
    · rw [if_neg (by simp [State.holdsGrant_false off])]
    · rw [ended, if_pos (.inl same), go _ held]
    · rw [ended, if_pos (.inr (by simp [State.holdsGrant_false off, low])), go _ held]
    · rw [ended]
      split
      · exact .inl (go _ held)
      · split
        · right; right
          have after := go s.withoutService.pointerMoved.countChoice grant
          rw [posted, after]
          rw [(State.ctx_afterService s.withoutService.pointerMoved.countChoice v.ctx).owner]
          exact (congrArg Ctx.owner ctx).trans owner
        · exact .inr (.inl (go _ held))

/-! ## What a run end leaves of a context -/

theorem State.owner_dispose (s : State) (c : CtxNo) (h : HostNo) (k : Cause) (d : CtxNo) :
    ((s.dispose c h k).1.ctx d).owner = (s.ctx d).owner := by
  have claimed : ((s.toClaimed c).ctx d).owner = (s.ctx d).owner := by
    rw [State.ctx_toClaimed]
    split
    · next same => subst same; rfl
    · rfl
  unfold State.dispose
  dsimp only
  split
  · rw [State.ctx_reload]
    split
    · next same => subst same; rfl
    · rfl
  · split
    · split
      · rw [State.ctx_takeStart]
        split
        · next same => rw [← claimed, same]; rfl
        · exact claimed
      · exact claimed
    · exact claimed

/-- No run end changes an owner. -/
theorem State.owner_runEnds (s : State) (c : CtxNo) (h : HostNo) (e : RunEnd) (d : CtxNo) :
    ((s.runEnds c h e).ctx d).owner = (s.ctx d).owner := by
  have cleared : ((s.setCtx c { s.ctx c with abortPending := false }).ctx d).owner = (s.ctx d).owner := by
    rw [State.ctx_setCtx]
    split
    · next same => subst same; rfl
    · rfl
  by_cases room : (s.cq h).queue.length < queueDepth
  · rw [State.runEnds_posted room, State.ctx_post, State.owner_dispose, cleared]
  · rw [State.runEnds_held (Nat.not_lt.1 room), State.ctx_setCq, State.ctx_setCtx]
    split
    · next same => subst same; rfl
    · rfl

theorem State.abortPending_dispose {s : State} {c : CtxNo} (clear : (s.ctx c).abortPending = false) (h : HostNo) (k : Cause) :
    ((s.dispose c h k).1.ctx c).abortPending = false := by
  have claimed : ((s.toClaimed c).ctx c).abortPending = false := by
    rw [State.ctx_toClaimed, if_pos rfl]
    exact clear
  unfold State.dispose
  dsimp only
  split
  · rw [State.ctx_reload, if_pos rfl]
    exact clear
  · split
    · split
      · rw [State.ctx_takeStart]
        split
        · rfl
        · exact claimed
      · exact claimed
    · exact claimed

/-- The run end clears abort pending (R7). -/
theorem State.abortPending_runEnds (s : State) (c : CtxNo) (h : HostNo) (e : RunEnd) :
    ((s.runEnds c h e).ctx c).abortPending = false := by
  by_cases room : (s.cq h).queue.length < queueDepth
  · rw [State.runEnds_posted room, State.ctx_post]
    exact State.abortPending_dispose (by rw [State.ctx_setCtx_self]) h e.cause
  · rw [State.runEnds_held (Nat.not_lt.1 room), State.ctx_setCq, State.ctx_setCtx_self]

/-! ## A run end of a context that no command waits for -/

/-- Where no command waits for the service, the end of it answers none. -/
theorem State.answerWaiter_none {s : State} {c : CtxNo} {h : HostNo} (owner : (s.ctx c).owner = some h)
    (untaken : ∀ q, (s.port h).passed = some q → q.waiting = none) : s.answerWaiter c = s := by
  unfold State.answerWaiter
  rw [owner]
  dsimp only
  split
  · next q passed => rw [untaken q passed, if_neg (by simp)]
  · rfl

/-- The end of a service with a run end, while its owner's command is still with its block: the ports stay, and abort pending is
cleared. -/
theorem State.endService_untaken {s : State} {v : Service} {e : RunEnd} {h : HostNo} (service : s.engine.service = some v)
    (ended : v.runEnd (s.abortSet v) = some e) (owner : (s.ctx v.ctx).owner = some h)
    (untaken : ∀ q, (s.port h).passed = some q → q.waiting = none) :
    (∀ g, s.endService.port g = s.port g) ∧ (s.endService.ctx v.ctx).abortPending = false := by
  have ctx : s.withoutService.pointerMoved.ctx v.ctx = s.ctx v.ctx := by rw [State.pointerMoved_frame]; rfl
  have port : ∀ g, s.withoutService.pointerMoved.port g = s.port g := by rw [State.pointerMoved_frame]; exact fun g => rfl
  have run : ∀ t : State, (t.ctx v.ctx).owner = some h → (∀ g, t.port g = s.port g) →
      t.endRun v.ctx e = t.runEnds v.ctx h e := fun t owner port => by
    rw [State.endRun_owned owner, State.answerWaiter_none (h := h)]
    · rw [State.owner_runEnds, owner]
    · rw [State.port_runEnds, port]
      exact untaken
  have after : ∀ t : State, (t.ctx v.ctx).abortPending = false → (t.afterService.ctx v.ctx).abortPending = false :=
    fun t clear => (State.ctx_afterService t v.ctx).abortPending.trans clear
  have first := run _ (ctx ▸ owner) port
  have later := run s.withoutService.pointerMoved.countChoice.afterService
    (by rw [(State.ctx_afterService _ _).owner]; exact ctx ▸ owner) (fun g => by simpa using port g)
  rw [State.endService_ended service ended, first, later]
  dsimp only
  split
  · exact ⟨fun g => by simp [port], after _ (State.abortPending_runEnds ..)⟩
  · split
    · exact ⟨fun g => by simp [port], by rw [State.ctx_reevaluate]; exact State.abortPending_runEnds ..⟩
    · exact ⟨fun g => by simp [port], after _ (State.abortPending_runEnds ..)⟩

/-! ## An abort on the ACTIVE context (R113 to R115) -/

/-- With abort pending a service always has a run end. -/
theorem Service.runEnd_abort (v : Service) : ∃ e, v.runEnd true = some e := by
  unfold Service.runEnd
  cases v.endDecided with
  | some k => exact ⟨_, rfl⟩
  | none =>
    cases v.failure with
    | some f => exact ⟨_, rfl⟩
    | none => exact ⟨_, rfl⟩

theorem State.setService_same {s : State} {v : Service} (service : s.engine.service = some v) : s.setService v = s := by
  rw [State.setService, ← service]
  rfl

/-- Before the first strobe of its service an abort ends the run: of a read phase with nothing read (R113), and of a FILL (R114). -/
theorem State.abortReaches_unstrobed {s : State} {v : Service} (service : s.engine.service = some v)
    (noBeat : s.engine.beat = none) (whole : v.half = false)
    (phase : s.engine.state = .reading ∧ s.engine.buffer = [] ∨ s.engine.state = .writing ∧ v.kind = .fill) :
    s.abortReaches = s.endService := by
  rcases phase with ⟨reading, nothing⟩ | ⟨writing, fill⟩
  · simp [State.abortReaches, service, reading, noBeat, State.discardPartial, whole, State.stopReading, nothing]
  · simp [State.abortReaches, service, writing, fill, noBeat, whole]

/-- With a beat in flight an abort changes the burst announced, or the state of a MOVE in WRITING, and no more. -/
theorem State.abortReaches_beat {s : State} {v : Service} (service : s.engine.service = some v)
    (onBus : s.engine.state.onBus = true) (beat : s.engine.beat.isSome = true) :
    s.abortReaches = s.setEngine { s.engine with
      state := if s.engine.state = .writing ∧ v.kind = .move then .draining else s.engine.state
      service := some (if s.engine.state = .reading then { v with burst := 0 } else v) } := by
  have inFlight : s.engine.beat.isNone = false := by
    rw [← Option.not_isSome, beat]
    rfl
  have same : ∀ e : EngState, e = s.engine.state → s = s.setEngine { s.engine with state := e, service := some v } := by
    rintro e rfl
    exact (State.setService_same service).symm
  have drains : ∀ e : EngState, s.setEngState e = s.setEngine { s.engine with state := e, service := some v } := by
    intro e
    rw [← service]
    rfl
  unfold State.abortReaches
  rw [service]
  dsimp only
  cases state : s.engine.state with
  | reading => simpa [inFlight, State.setService] using congrArg _ (by rw [state])
  | writing =>
    cases kind : v.kind with
    | move => simpa using drains _
    | fill => simpa [inFlight] using same _ state.symm
    | check => simpa [inFlight] using same _ state.symm
  | draining => simpa using same _ state.symm
  | idle => rw [state] at onBus; cases onBus
  | asking => rw [state] at onBus; cases onBus
  | pinned => rw [state] at onBus; cases onBus

/-- Settles O25: by the engine state, and by the beat in flight. -/
theorem abortReachesService : Obligations.AbortReachesService := by
  unfold Obligations.AbortReachesService
  rintro s h b c v given number owner active service rfl
  have run := State.abort_active number owner active
  have untaken : ∀ q, (s.port h).passed = some q → q.waiting = none := by
    intro q passed
    rw [given.2] at passed
    cases passed
    rfl
  have ends : ∀ (t : State) (u : Service), t.engine.service = some u → u.ctx = v.ctx →
      (∀ d, t.ctx d = (s.setCtx v.ctx { s.ctx v.ctx with abortPending := true }).ctx d) → (∀ g, t.port g = s.port g) →
      (s.setCtx v.ctx { s.ctx v.ctx with abortPending := true }).abortReaches = t.endService →
      exec (.abt h) s = .next (t.endService.completed h [0x00]) := by
    intro t u service same ctxs ports reached
    have set : t.abortSet u = true := by rw [State.abortSet, same, ctxs, State.ctx_setCtx_self]
    obtain ⟨e, ended⟩ := u.runEnd_abort
    rw [← set] at ended
    obtain ⟨port, clear⟩ := State.endService_untaken (h := h) service ended
      (by rw [same, ctxs, State.ctx_setCtx_self]; exact owner) (by rw [ports]; exact untaken)
    rw [same] at clear
    rw [reached] at run
    dsimp only at run
    rw [clear] at run
    exact congrArg Host.Outcome.next (State.take_answers given run ((port h).trans (ports h)))
  refine ⟨fun pinned => ?_, fun noBeat whole phase => ?_, fun onBus beat => ?_⟩
  · refine ends _ { v with dataLost := true } rfl rfl (fun d => rfl) (fun g => rfl) ?_
    simp [State.abortReaches, service, pinned, State.pinnedAbort]
  · exact ends _ v service rfl (fun d => rfl) (fun g => rfl) (State.abortReaches_unstrobed service noBeat whole phase)
  · rw [State.abortReaches_beat (s := s.setCtx v.ctx _) service onBus beat] at run
    dsimp only at run
    rw [State.ctx_setEngine, State.ctx_setCtx_self, if_pos rfl] at run
    exact congrArg Host.Outcome.next (State.take_waits given run rfl)

end Sys2Proof.Machine
end

section
/-! SUPPORT. What a step keeps of the tables, said once. `Kept o F s w` says of a state `s` in the middle of a step that began in
`o`: every context stands where its record says, but for the loose context `w`, whose service or run is just ending; counts,
references, lines and the service record are true to the contexts; and the hosts of `F`, which the step does not concern, have
been left alone. Every act of a step is a quiet one, or moves one context; the lemmas here say what each needs. -/

namespace Sys2Proof.Machine

/-! ## References as a sum over the contexts (R40) -/

/-- The references that a context holds on window `u`: one for each used role, in the started states alone (R6). -/
def Ctx.share (x : Ctx) (u : WinNo) : Nat := if x.state.started then x.usedWindows.count u else 0

theorem Ctx.count_usedWindows (x : Ctx) (u : WinNo) : x.usedWindows.count u = x.roles u := by
  unfold Ctx.usedWindows Ctx.roles
  cases x.kind <;> simp [Kind.usesSource, Kind.usesDest, List.count_cons, List.count_nil, Nat.add_comm]

theorem Ctx.share_started {x : Ctx} (started : x.state.started = true) (u : WinNo) : x.share u = x.roles u := by
  rw [Ctx.share, if_pos started, Ctx.count_usedWindows]

theorem Ctx.share_unstarted {x : Ctx} (unstarted : x.state.started = false) (u : WinNo) : x.share u = 0 := by
  rw [Ctx.share, unstarted]
  rfl

theorem State.uses_eq_sum (s : State) (u : WinNo) : s.uses u = ∑ c, (s.ctx c).share u := (Fin.sum_univ_def _).symm

theorem State.share_le_uses (s : State) (c : CtxNo) (u : WinNo) : (s.ctx c).share u ≤ s.uses u := by
  rw [State.uses_eq_sum]
  exact Finset.single_le_sum (f := fun c => (s.ctx c).share u) (fun _ _ => Nat.zero_le _) (Finset.mem_univ c)

/-- Where one context changes, the uses change by its share. -/
theorem State.uses_recast {s t : State} {c : CtxNo} (others : ∀ d, d ≠ c → t.ctx d = s.ctx d) (u : WinNo) :
    t.uses u + (s.ctx c).share u = s.uses u + (t.ctx c).share u := by
  rw [State.uses_eq_sum, State.uses_eq_sum, ← Finset.add_sum_erase _ _ (Finset.mem_univ c),
    ← Finset.add_sum_erase Finset.univ (fun c => (s.ctx c).share u) (Finset.mem_univ c)]
  rw [Finset.sum_congr rfl fun d other => by rw [others d (Finset.ne_of_mem_erase other)]]
  omega

/-- The reference counts stay the uses where one context changes, if they change by its share. -/
theorem State.refsSound_recast {s t : State} {c : CtxNo} (sound : s.refsSound) (others : ∀ d, d ≠ c → t.ctx d = s.ctx d)
    (refs : ∀ u, (s.ctx c).share u ≤ (s.window u).refs →
      (t.window u).refs + (s.ctx c).share u = (s.window u).refs + (t.ctx c).share u) : t.refsSound := by
  intro u
  have held := State.share_le_uses s c u
  have change := State.uses_recast others u
  have moved := refs u (by rw [sound u]; exact held)
  rw [sound u] at moved
  omega

theorem State.refsSound_quiet {s t : State} (sound : s.refsSound) (ctx : ∀ c, t.ctx c = s.ctx c)
    (refs : ∀ u, (t.window u).refs = (s.window u).refs) : t.refsSound := by
  intro u
  rw [refs, sound u]
  simp only [State.uses, ctx]

/-! ## Where a context stands -/

/-- The context whose service is in flight. -/
def State.serving (s : State) : Option CtxNo := s.engine.service.map Service.ctx

/-- A context record is sound by itself (R4, R7, R12, R141). -/
structure CtxSound (x : Ctx) : Prop where
  owned : x.state = .free ↔ x.owner = none
  pendingEnd : x.pendingEnd.isSome = true ↔ x.state = .held
  abortPending : x.abortPending = true → x.state = .active
  suspendPending : x.suspendPending = true → x.state = .active ∨ x.state = .held
  counts : CountsSound x

/-- Context `c` stands where its record says: on the lists, in service, on its line, and with regard to a withdrawal of its owner.
The lines are sound only where they were at the beginning of the step, which is `L`. -/
structure Placed (L : Prop) (s : State) (c : CtxNo) : Prop where
  record : CtxSound (s.ctx c)
  ready : ∀ h, c ∈ s.readyList h ↔ (s.ctx c).state = .ready ∧ (s.ctx c).owner = some h
  held : ∀ h, c ∈ (s.cq h).held ↔ (s.ctx c).state = .held ∧ (s.ctx c).owner = some h
  active : (s.ctx c).state = .active ↔ s.serving = some c
  cut : ∀ h w, s.wd h = some w → w.step = .contexts → (s.ctx c).owner = some h → (s.ctx c).state ≠ .active
  gone : ∀ h w, s.wd h = some w → (w.step = .windows ∨ w.step = .queue ∨ w.step = .weight) → (s.ctx c).owner ≠ some h
  lines : L → ∀ n, (s.line n).bound = some c ↔ (s.ctx c).state.started = true ∧ (s.ctx c).trigger.lineNo = some n

/-- Context `c` is on its way from one place to another: started, on no list, not in service, of an owner whom the step
concerns. -/
structure Loose (L : Prop) (F : HostNo → Prop) (s : State) (c : CtxNo) : Prop where
  started : (s.ctx c).state.started = true
  owner : ∃ h, (s.ctx c).owner = some h ∧ ¬F h
  offReady : ∀ h, c ∉ s.readyList h
  offHeld : ∀ h, c ∉ (s.cq h).held
  idle : s.serving ≠ some c
  pendingEnd : (s.ctx c).pendingEnd.isSome = true ↔ (s.ctx c).state = .held
  sum : (s.ctx c).moved.toNat + (s.ctx c).residual.toNat = (s.ctx c).count.toNat
  counted : (s.ctx c).count ≠ 0
  gone : ∀ h w, s.wd h = some w → (w.step = .windows ∨ w.step = .queue ∨ w.step = .weight) → (s.ctx c).owner ≠ some h
  lines : L → ∀ n, (s.line n).bound = some c ↔ (s.ctx c).state.started = true ∧ (s.ctx c).trigger.lineNo = some n

/-- A change of the state that does not concern context `d`. -/
structure Same (s t : State) (d : CtxNo) : Prop where
  ctx : t.ctx d = s.ctx d
  ready : ∀ h, d ∈ t.readyList h ↔ d ∈ s.readyList h
  held : ∀ h, d ∈ (t.cq h).held ↔ d ∈ (s.cq h).held
  bound : ∀ n, (t.line n).bound = some d ↔ (s.line n).bound = some d
  serving : t.serving = some d ↔ s.serving = some d

theorem Placed.same {L : Prop} {s t : State} {d : CtxNo} (p : Placed L s d) (e : Same s t d) (wd : ∀ h, t.wd h = s.wd h) :
    Placed L t d := by
  obtain ⟨ctx, ready, held, bound, serving⟩ := e
  constructor
  · rw [ctx]; exact p.record
  · intro h; rw [ready, ctx]; exact p.ready h
  · intro h; rw [held, ctx]; exact p.held h
  · rw [ctx, serving]; exact p.active
  · intro h; rw [wd, ctx]; exact p.cut h
  · intro h; rw [wd, ctx]; exact p.gone h
  · intro l n; rw [bound, ctx]; exact p.lines l n

theorem Loose.same {L : Prop} {F : HostNo → Prop} {s t : State} {d : CtxNo} (p : Loose L F s d) (ctx : t.ctx d = s.ctx d)
    (ready : ∀ h, d ∈ t.readyList h → d ∈ s.readyList h) (held : ∀ h, d ∈ (t.cq h).held → d ∈ (s.cq h).held)
    (bound : ∀ n, (t.line n).bound = some d ↔ (s.line n).bound = some d)
    (serving : t.serving = some d → s.serving = some d) (wd : ∀ h, t.wd h = s.wd h) : Loose L F t d := by
  constructor
  · rw [ctx]; exact p.started
  · rw [ctx]; exact p.owner
  · exact fun h on => p.offReady h (ready h on)
  · exact fun h on => p.offHeld h (held h on)
  · exact fun names => p.idle (serving names)
  · rw [ctx]; exact p.pendingEnd
  · rw [ctx]; exact p.sum
  · rw [ctx]; exact p.counted
  · intro h; rw [wd, ctx]; exact p.gone h
  · intro l n; rw [bound, ctx]; exact p.lines l n

/-! ## The hosts that a step does not concern -/

/-- Host `h` has been left alone since `o`, but for a selection of one of its contexts (R8, R55, R134, R140, R149). -/
structure Apart (o s : State) (h : HostNo) : Prop where
  port : s.port h = o.port h
  cq : s.cq h = o.cq h
  wd : s.wd h = o.wd h
  weight : s.weight h = o.weight h
  mine : ∀ c, (o.ctx c).owner = some h →
    s.ctx c = o.ctx c ∨ (o.ctx c).state = .ready ∧ s.ctx c = { o.ctx c with state := .active }
  others : ∀ c, (o.ctx c).owner ≠ some h → (s.ctx c).owner ≠ some h

theorem Apart.refl (o : State) (h : HostNo) : Apart o o h := ⟨rfl, rfl, rfl, rfl, fun _ _ => .inl rfl, fun _ other => other⟩

/-- Between `o` and now no context has come to an untouched host, or left it. -/
theorem Apart.owner_iff {o s : State} {h : HostNo} (a : Apart o s h) (c : CtxNo) :
    (s.ctx c).owner = some h ↔ (o.ctx c).owner = some h := by
  refine ⟨fun owner => Classical.byContradiction fun other => a.others c other owner, fun owner => ?_⟩
  rcases a.mine c owner with same | ⟨-, begun⟩
  · rw [same, owner]
  · rw [begun]; exact owner

/-! ## The service in flight -/

/-- The service record is true to its context (R67), and with no end decided the run has units left (R69, R75). -/
def State.served (s : State) : Prop :=
  ∀ v, s.engine.service = some v →
    ServiceMatches (s.ctx v.ctx) v ∧ (v.endDecided = none → (s.ctx v.ctx).residual ≠ 0)

/-- A service record that has changed in nothing that its context repeats, and keeps an end once decided. -/
structure Agrees (v u : Service) : Prop where
  same : u = { v with
    readAddr := u.readAddr, unitsRead := u.unitsRead, half := u.half, burst := u.burst, endDecided := u.endDecided
    termMark := u.termMark, reqDropped := u.reqDropped, failure := u.failure, drainLost := u.drainLost
    dataLost := u.dataLost, writeOut := u.writeOut, pinEnding := u.pinEnding }
  undecided : u.endDecided = none → v.endDecided = none

theorem Agrees.refl (v : Service) : Agrees v v := ⟨rfl, id⟩

theorem Agrees.trans {v u x : Service} (a : Agrees v u) (b : Agrees u x) : Agrees v x where
  same := by
    rw [b.same, a.same]
  undecided e := a.undecided (b.undecided e)

theorem Agrees.ctx {v u : Service} (a : Agrees v u) : u.ctx = v.ctx := by rw [a.same]

theorem Agrees.matches {v u : Service} (a : Agrees v u) {x : Ctx} (m : ServiceMatches x v) : ServiceMatches x u := by
  rw [a.same]
  exact ⟨m.kind, m.unit, m.trigger, m.srcWin, m.srcStep, m.dstWin, m.dstStep, m.left⟩

/-! ## What is kept -/

/-- A completion queue with its held list (R140, R141): contexts are held only while the queue is full, and it holds at most 8. -/
def Cq.bounded (q : Cq) : Prop := (q.held ≠ [] → q.queue.length = queueDepth) ∧ q.queue.length ≤ queueDepth

/-- What a step that began in `o` has kept of the tables so far, with context `w` loose. -/
structure Tabled (o : State) (F : HostNo → Prop) (s : State) (w : Option CtxNo) : Prop where
  placed : ∀ c, w ≠ some c → Placed o.linesSound s c
  loose : ∀ c, w = some c → Loose o.linesSound F s c
  readyOnce : ∀ h, (s.readyList h).Nodup
  heldOnce : ∀ h, (s.cq h).held.Nodup
  refs : o.windowsSound → o.refsSound → s.refsSound
  served : s.served
  apart : ∀ h, F h → Apart o s h

/-- What a step that began in `o` has kept so far, with context `w` loose. -/
structure Kept (o : State) (F : HostNo → Prop) (s : State) (w : Option CtxNo) : Prop where
  tabled : Tabled o F s w
  bounded : ∀ h, (s.cq h).bounded

/-! ## Quiet acts -/

/-- A change of the state that concerns no table: of the engine, the ring, the levels of the lines, the records of the windows but
for their reference counts, and the counter. -/
structure Quiet (s t : State) : Prop where
  ctx : ∀ c, t.ctx c = s.ctx c
  ready : ∀ h, t.readyList h = s.readyList h
  cq : ∀ h, t.cq h = s.cq h
  wd : ∀ h, t.wd h = s.wd h
  port : ∀ h, t.port h = s.port h
  weight : ∀ h, t.weight h = s.weight h
  refs : ∀ u, (t.window u).refs = (s.window u).refs
  bound : ∀ n, (t.line n).bound = (s.line n).bound

theorem Quiet.refl (s : State) : Quiet s s :=
  ⟨fun _ => rfl, fun _ => rfl, fun _ => rfl, fun _ => rfl, fun _ => rfl, fun _ => rfl, fun _ => rfl, fun _ => rfl⟩

theorem Quiet.setEngine (s : State) (e : Engine) : Quiet s (s.setEngine e) :=
  ⟨fun _ => rfl, fun _ => rfl, fun _ => rfl, fun _ => rfl, fun _ => rfl, fun _ => rfl, fun _ => rfl, fun _ => rfl⟩

theorem Quiet.countChoice (s : State) : Quiet s s.countChoice :=
  ⟨fun _ => rfl, fun _ => rfl, fun _ => rfl, fun _ => rfl, fun _ => rfl, fun _ => rfl, fun _ => rfl, fun _ => rfl⟩

theorem Quiet.setMark (s : State) (m : Option Nat) : Quiet s (s.setMark m) :=
  ⟨fun _ => rfl, fun _ => rfl, fun _ => rfl, fun _ => rfl, fun _ => rfl, fun _ => rfl, fun _ => rfl, fun _ => rfl⟩

theorem Quiet.reevaluate (s : State) : Quiet s s.reevaluate := by constructor <;> simp

theorem Quiet.pointerMoved (s : State) : Quiet s s.pointerMoved := by
  rw [State.pointerMoved_frame]
  exact ⟨fun _ => rfl, fun _ => rfl, fun _ => rfl, fun _ => rfl, fun _ => rfl, fun _ => rfl, fun _ => rfl, fun _ => rfl⟩

/-- A line written in all but its binding. -/
theorem Quiet.setLine (s : State) (n : LineNo) {x : Line} (bound : x.bound = (s.line n).bound) : Quiet s (s.setLine n x) where
  ctx _ := rfl
  ready _ := rfl
  cq _ := rfl
  wd _ := rfl
  port _ := rfl
  weight _ := rfl
  refs _ := rfl
  bound m := by
    rw [State.line_setLine]
    split
    · next same => rw [same]; exact bound
    · rfl

/-- A window written in all but its reference count. -/
theorem Quiet.setWindow (s : State) (u : WinNo) {x : Window} (refs : x.refs = (s.window u).refs) : Quiet s (s.setWindow u x) where
  ctx _ := rfl
  ready _ := rfl
  cq _ := rfl
  wd _ := rfl
  port _ := rfl
  weight _ := rfl
  refs v := by
    rw [State.window_setWindow]
    split
    · next same => rw [same]; exact refs
    · rfl
  bound _ := rfl

section
variable {o : State} {F : HostNo → Prop} {s t : State} {w : Option CtxNo}

theorem Apart.quiet {h : HostNo} (a : Apart o s h) (q : Quiet s t) : Apart o t h where
  port := (q.port h).trans a.port
  cq := (q.cq h).trans a.cq
  wd := (q.wd h).trans a.wd
  weight := (q.weight h).trans a.weight
  mine c owner := by rw [q.ctx]; exact a.mine c owner
  others c other := by rw [q.ctx]; exact a.others c other

theorem Quiet.same (q : Quiet s t) {d : CtxNo} (serving : t.serving = some d ↔ s.serving = some d) : Same s t d :=
  ⟨q.ctx d, fun h => by rw [q.ready], fun h => by rw [q.cq], fun n => by rw [q.bound], serving⟩

/-- A quiet act keeps the tables, if the service in flight stays that of the same context, or was that of the loose one. -/
theorem Tabled.quiet (k : Tabled o F s w) (q : Quiet s t)
    (serving : ∀ d, w ≠ some d → (t.serving = some d ↔ s.serving = some d))
    (ending : ∀ d, w = some d → t.serving = some d → s.serving = some d) (served : t.served) : Tabled o F t w where
  placed c other := (k.placed c other).same (q.same (serving c other)) q.wd
  loose c is := (k.loose c is).same (q.ctx c) (fun h => by rw [q.ready]; exact id) (fun h => by rw [q.cq]; exact id)
    (fun n => by rw [q.bound]) (ending c is) q.wd
  readyOnce h := by rw [q.ready]; exact k.readyOnce h
  heldOnce h := by rw [q.cq]; exact k.heldOnce h
  refs ws rs := State.refsSound_quiet (k.refs ws rs) q.ctx q.refs
  served := served
  apart h f := (k.apart h f).quiet q

theorem Kept.quiet (k : Kept o F s w) (q : Quiet s t) (serving : ∀ d, w ≠ some d → (t.serving = some d ↔ s.serving = some d))
    (ending : ∀ d, w = some d → t.serving = some d → s.serving = some d) (served : t.served) : Kept o F t w where
  tabled := k.tabled.quiet q serving ending served
  bounded h := by rw [q.cq]; exact k.bounded h

/-- A quiet act that leaves the service alone. -/
theorem Kept.aside (k : Kept o F s w) (q : Quiet s t) (service : t.engine.service = s.engine.service) : Kept o F t w := by
  have serving : t.serving = s.serving := by rw [State.serving, service]; rfl
  refine k.quiet q (fun d _ => by rw [serving]) (fun d _ => by rw [serving]; exact id) fun v inFlight => ?_
  rw [q.ctx]
  exact k.tabled.served v (service ▸ inFlight)

/-- A quiet act of the engine on its service. -/
theorem Kept.work (k : Kept o F s w) (q : Quiet s t) {v u : Service} (before : s.engine.service = some v)
    (after : t.engine.service = some u) (agrees : Agrees v u) : Kept o F t w := by
  have serving : t.serving = s.serving := by simp [State.serving, before, after, agrees.ctx]
  refine k.quiet q (fun d _ => by rw [serving]) (fun d _ => by rw [serving]; exact id) fun x inFlight => ?_
  obtain rfl : u = x := Option.some.inj (after.symm.trans inFlight)
  obtain ⟨isMatch, left⟩ := k.tabled.served v before
  rw [q.ctx, agrees.ctx]
  exact ⟨agrees.matches isMatch, fun undecided => left (agrees.undecided undecided)⟩

/-! ## Moving one context -/

/-- The tables stay sound where one context moves: the others are as they were, the moved one stands where its record says, and the
references have changed by its share. -/
theorem Tabled.recast {c : CtxNo} {w' : Option CtxNo} (k : Tabled o F s w) (settled : w' ≠ some c)
    (rest : ∀ d, d ≠ c → (w' = some d ↔ w = some d)) (others : ∀ d, d ≠ c → Same s t d) (wd : ∀ h, t.wd h = s.wd h)
    (placed : Placed o.linesSound t c) (readyOnce : ∀ h, (t.readyList h).Nodup) (heldOnce : ∀ h, (t.cq h).held.Nodup)
    (refs : ∀ u, (s.ctx c).share u ≤ (s.window u).refs →
      (t.window u).refs + (s.ctx c).share u = (s.window u).refs + (t.ctx c).share u)
    (served : t.served) (apart : ∀ h, F h → Apart o t h) : Tabled o F t w' where
  placed d other := by
    by_cases same : d = c
    · rw [same]; exact placed
    · exact (k.placed d (mt (rest d same).2 other)).same (others d same) wd
  loose d is := by
    have other : d ≠ c := fun same => settled (same ▸ is)
    have e := others d other
    exact (k.loose d ((rest d other).1 is)).same e.ctx (fun h => (e.ready h).1) (fun h => (e.held h).1) e.bound e.serving.1 wd
  readyOnce := readyOnce
  heldOnce := heldOnce
  refs ws rs := State.refsSound_recast (k.refs ws rs) (fun d other => (others d other).ctx) refs
  served := served
  apart := apart

/-- A host that is left alone stays so where a context moves that is not its own, before or after. -/
theorem Apart.recast {c : CtxNo} {h : HostNo} (a : Apart o s h) (others : ∀ d, d ≠ c → t.ctx d = s.ctx d)
    (before : (s.ctx c).owner ≠ some h) (after : (t.ctx c).owner ≠ some h) (port : t.port h = s.port h) (cq : t.cq h = s.cq h)
    (wd : t.wd h = s.wd h) (weight : t.weight h = s.weight h) : Apart o t h where
  port := port.trans a.port
  cq := cq.trans a.cq
  wd := wd.trans a.wd
  weight := weight.trans a.weight
  mine d owner := by
    have other : d ≠ c := by
      rintro rfl
      exact before ((a.owner_iff d).2 owner)
    rw [others d other]
    exact a.mine d owner
  others d foreign := by
    by_cases same : d = c
    · rw [same]; exact after
    · rw [others d same]; exact a.others d foreign

end

end Sys2Proof.Machine
end

section
/-! SUPPORT. The acts that move one context, each against what a step keeps: a context taken off its list, and a context put where
its new record says. -/

namespace Sys2Proof.Machine

/-! ## Taking a context off its list -/

/-- The state `t` is `s` with context `c` of host `h` on no list. -/
structure TakenOff (s t : State) (c : CtxNo) (h : HostNo) : Prop where
  ctx : ∀ d, t.ctx d = s.ctx d
  ready : ∀ g, t.readyList g = (s.readyList g).erase c
  held : ∀ g, (t.cq g).held = (s.cq g).held.erase c
  cq : ∀ g, g ≠ h → t.cq g = s.cq g
  wd : ∀ g, t.wd g = s.wd g
  port : ∀ g, t.port g = s.port g
  weight : ∀ g, t.weight g = s.weight g
  window : ∀ u, t.window u = s.window u
  line : ∀ n, t.line n = s.line n
  service : t.engine.service = s.engine.service

/-- A change of the state that puts context `c` of host `h`, on no list before, where its new record `x` says. -/
structure Moved (s t : State) (c : CtxNo) (h : HostNo) (x : Ctx) : Prop where
  ctx : ∀ d, t.ctx d = if d = c then x else s.ctx d
  ready : ∀ g, (t.readyList g).Perm (if g = h ∧ x.state = .ready then c :: s.readyList g else s.readyList g)
  held : ∀ g, (t.cq g).held.Perm (if g = h ∧ x.state = .held then c :: (s.cq g).held else (s.cq g).held)
  cq : ∀ g, g ≠ h → t.cq g = s.cq g
  wd : ∀ g, t.wd g = s.wd g
  port : ∀ g, t.port g = s.port g
  weight : ∀ g, t.weight g = s.weight g
  service : t.engine.service = s.engine.service
  bound : ∀ n d, d ≠ c → ((t.line n).bound = some d ↔ (s.line n).bound = some d)
  refs : ∀ u, (s.ctx c).share u ≤ (s.window u).refs →
    (t.window u).refs + (s.ctx c).share u = (s.window u).refs + x.share u

section
variable {o : State} {F : HostNo → Prop} {s t : State} {w w' : Option CtxNo} {c : CtxNo} {h : HostNo} {x : Ctx}

theorem mem_insert_iff {l l' : List CtxNo} {p : Prop} [Decidable p] (perm : l'.Perm (if p then c :: l else l)) (d : CtxNo) :
    d ∈ l' ↔ d ∈ l ∨ d = c ∧ p := by
  rw [perm.mem_iff]
  split <;> simp [*, or_comm]

theorem nodup_insert {l l' : List CtxNo} {p : Prop} [Decidable p] (perm : l'.Perm (if p then c :: l else l)) (once : l.Nodup)
    (off : c ∉ l) : l'.Nodup := by
  rw [perm.nodup_iff]
  split
  · exact List.nodup_cons.2 ⟨off, once⟩
  · exact once

theorem Tabled.move (k : Tabled o F s w) (m : Moved s t c h x) (mine : ¬F h)
    (settled : w' ≠ some c) (rest : ∀ d, d ≠ c → (w' = some d ↔ w = some d))
    (offReady : ∀ g, c ∉ s.readyList g) (offHeld : ∀ g, c ∉ (s.cq g).held)
    (before : ∀ g, (s.ctx c).owner = some g → g = h) (after : ∀ g, x.owner = some g → g = h) (record : CtxSound x)
    (active : x.state = .active ↔ s.serving = some c)
    (cut : ∀ y, s.wd h = some y → y.step = .contexts → x.state ≠ .active)
    (gone : ∀ y, s.wd h = some y → (y.step = .windows ∨ y.step = .queue ∨ y.step = .weight) → x.owner ≠ some h)
    (lines : o.linesSound → ∀ n, (t.line n).bound = some c ↔ x.state.started = true ∧ x.trigger.lineNo = some n)
    (served : ∀ v, s.engine.service = some v → v.ctx = c →
      ServiceMatches x v ∧ (v.endDecided = none → x.residual ≠ 0)) : Tabled o F t w' := by
  have serving : t.serving = s.serving := by rw [State.serving, m.service]; rfl
  have own : t.ctx c = x := by rw [m.ctx, if_pos rfl]
  have others : ∀ d, d ≠ c → t.ctx d = s.ctx d := fun d other => by rw [m.ctx, if_neg other]
  have onReady : ∀ g d, d ∈ t.readyList g ↔ d ∈ s.readyList g ∨ d = c ∧ g = h ∧ x.state = .ready :=
    fun g => mem_insert_iff (m.ready g)
  have onHeld : ∀ g d, d ∈ (t.cq g).held ↔ d ∈ (s.cq g).held ∨ d = c ∧ g = h ∧ x.state = .held :=
    fun g => mem_insert_iff (m.held g)
  have owned : x.state ≠ .free → x.owner = some h := fun used => by
    cases e : x.owner with
    | none => exact absurd (record.owned.2 e) used
    | some g => rw [after g e]
  refine k.recast settled rest (fun d other => ⟨others d other, fun g => ?_, fun g => ?_, fun n => m.bound n d other, by rw [serving]⟩)
    m.wd ⟨?_, fun g => ?_, fun g => ?_, ?_, fun g y e => ?_, fun g y e past => ?_, ?_⟩
    (fun g => nodup_insert (m.ready g) (k.readyOnce g) (offReady g)) (fun g => nodup_insert (m.held g) (k.heldOnce g) (offHeld g))
    (by rw [own]; exact m.refs) ?_ fun g untouched => ?_
  · simp [onReady, other]
  · simp [onHeld, other]
  · rw [own]; exact record
  · rw [own, onReady]
    constructor
    · rintro (on | ⟨-, rfl, ready⟩)
      · exact absurd on (offReady g)
      · exact ⟨ready, owned (by simp [ready])⟩
    · rintro ⟨ready, owner⟩
      exact .inr ⟨rfl, after g owner, ready⟩
  · rw [own, onHeld]
    constructor
    · rintro (on | ⟨-, rfl, held⟩)
      · exact absurd on (offHeld g)
      · exact ⟨held, owned (by simp [held])⟩
    · rintro ⟨held, owner⟩
      exact .inr ⟨rfl, after g owner, held⟩
  · rw [own, serving]; exact active
  · rw [own]
    intro past owner
    have same := after g owner
    subst same
    exact cut y (m.wd g ▸ e) past
  · rw [own]
    intro owner
    have same := after g owner
    subst same
    exact gone y (m.wd g ▸ e) past owner
  · rw [own]; exact lines
  · intro v inFlight
    rw [m.service] at inFlight
    by_cases same : v.ctx = c
    · rw [same, own]; exact served v inFlight same
    · rw [others _ same]; exact k.served v inFlight
  · have other : g ≠ h := fun same => mine (same ▸ untouched)
    exact (k.apart g untouched).recast others (fun owner => other (before g owner)) (by rw [own]; exact fun owner => other (after g owner))
      (m.port g) (m.cq g other) (m.wd g) (m.weight g)

/-- A loose context is put in its place, its service gone. -/
theorem Tabled.settle (k : Tabled o F s (some c)) (m : Moved s t c h x) (owner : (s.ctx c).owner = some h)
    (after : ∀ g, x.owner = some g → g = h) (record : CtxSound x) (inactive : x.state ≠ .active)
    (lines : o.linesSound → ∀ n, (t.line n).bound = some c ↔ x.state.started = true ∧ x.trigger.lineNo = some n) :
    Tabled o F t none := by
  have l := k.loose c rfl
  obtain ⟨g, owner', mine⟩ := l.owner
  obtain rfl : h = g := Option.some.inj (owner.symm.trans owner')
  refine k.move m mine nofun (fun d other => ⟨nofun, fun is => absurd (Option.some.inj is).symm other⟩) l.offReady l.offHeld
    (fun g e => Option.some.inj (e.symm.trans owner)) after record ⟨fun e => absurd e inactive, fun e => absurd e l.idle⟩
    (fun _ _ _ => inactive) (fun y e past => absurd owner (l.gone h y e past)) lines fun v inFlight same => ?_
  exact absurd (by rw [State.serving, inFlight, ← same]; rfl) l.idle

/-- A started context that is not in service comes off its list. -/
theorem Tabled.takeOff (k : Tabled o F s none) (m : TakenOff s t c h) (owner : (s.ctx c).owner = some h) (mine : ¬F h)
    (started : (s.ctx c).state.started = true) (idle : (s.ctx c).state ≠ .active) : Tabled o F t (some c) := by
  have serving : t.serving = s.serving := by rw [State.serving, m.service]; rfl
  have p := k.placed c nofun
  have same : ∀ d, d ≠ c → Same s t d := fun d other =>
    ⟨m.ctx d, fun g => by rw [m.ready, List.mem_erase_of_ne other], fun g => by rw [m.held, List.mem_erase_of_ne other],
      fun n => by rw [m.line], by rw [serving]⟩
  constructor
  · exact fun d other => (k.placed d nofun).same (same d fun is => other (congrArg some is.symm)) m.wd
  · rintro d ⟨⟩
    constructor
    · rw [m.ctx]; exact started
    · rw [m.ctx]; exact ⟨h, owner, mine⟩
    · intro g; rw [m.ready]; exact (k.readyOnce g).not_mem_erase
    · intro g; rw [m.held]; exact (k.heldOnce g).not_mem_erase
    · rw [serving]; exact fun serves => idle (p.active.2 serves)
    · rw [m.ctx]; exact p.record.pendingEnd
    · rw [m.ctx]; exact p.record.counts.sum started
    · rw [m.ctx]; exact p.record.counts.counted (.inl started)
    · intro g; rw [m.wd, m.ctx]; exact p.gone g
    · intro l n; rw [m.line, m.ctx]; exact p.lines l n
  · intro g; rw [m.ready]; exact (k.readyOnce g).erase c
  · intro g; rw [m.held]; exact (k.heldOnce g).erase c
  · exact fun ws rs => State.refsSound_quiet (k.refs ws rs) m.ctx fun u => by rw [m.window]
  · intro v inFlight
    rw [m.service] at inFlight
    rw [m.ctx]
    exact k.served v inFlight
  · intro g untouched
    have other : g ≠ h := fun is => mine (is ▸ untouched)
    have a := k.apart g untouched
    exact ⟨(m.port g).trans a.port, (m.cq g other).trans a.cq, (m.wd g).trans a.wd, (m.weight g).trans a.weight,
      fun d => by rw [m.ctx]; exact a.mine d, fun d => by rw [m.ctx]; exact a.others d⟩

/-- A context is on the lists of its owner alone. -/
theorem Placed.erase_ready {L : Prop} (p : Placed L s c) (owner : (s.ctx c).owner = some h) {g : HostNo} (other : g ≠ h) :
    (s.readyList g).erase c = s.readyList g :=
  List.erase_of_not_mem fun on => other (Option.some.inj (((p.ready g).1 on).2.symm.trans owner))

theorem Placed.erase_held {L : Prop} (p : Placed L s c) (owner : (s.ctx c).owner = some h) {g : HostNo} (other : g ≠ h) :
    (s.cq g).held.erase c = (s.cq g).held :=
  List.erase_of_not_mem fun on => other (Option.some.inj (((p.held g).1 on).2.symm.trans owner))

/-- A context that is not HELD is on no held list. -/
theorem Placed.off_held {L : Prop} (p : Placed L s c) (unheld : (s.ctx c).state ≠ .held) (g : HostNo) : c ∉ (s.cq g).held :=
  fun on => unheld ((p.held g).1 on).1

theorem Placed.off_ready {L : Prop} (p : Placed L s c) (unready : (s.ctx c).state ≠ .ready) (g : HostNo) : c ∉ s.readyList g :=
  fun on => unready ((p.ready g).1 on).1

/-- With its service removed, the context of that service is loose. -/
theorem Kept.drop (k : Kept o F s none) (q : Quiet s t) (serving : s.serving = some c) (dropped : t.engine.service = none)
    (mine : ∀ h, (s.ctx c).owner = some h → ¬F h) : Kept o F t (some c) := by
  have p := k.tabled.placed c nofun
  have active := p.active.2 serving
  have unserved : t.serving = none := by rw [State.serving, dropped]; rfl
  obtain ⟨h, owner⟩ : ∃ h, (s.ctx c).owner = some h :=
    Option.ne_none_iff_exists'.1 fun e => absurd (p.record.owned.2 e) (by simp [active])
  constructor
  · constructor
    · intro d other
      have others : d ≠ c := fun same => other (congrArg some same.symm)
      refine (k.tabled.placed d nofun).same (q.same ?_) q.wd
      simp [unserved, serving, Ne.symm others]
    · rintro d ⟨⟩
      constructor
      · rw [q.ctx, active]; rfl
      · rw [q.ctx]; exact ⟨h, owner, mine h owner⟩
      · intro g; rw [q.ready]; exact p.off_ready (by simp [active]) g
      · intro g; rw [q.cq]; exact p.off_held (by simp [active]) g
      · simp [unserved]
      · rw [q.ctx]; exact p.record.pendingEnd
      · rw [q.ctx]; exact p.record.counts.sum (by rw [active]; rfl)
      · rw [q.ctx]; exact p.record.counts.counted (.inl (by rw [active]; rfl))
      · intro g; rw [q.wd, q.ctx]; exact p.gone g
      · intro l n; rw [q.bound, q.ctx]; exact p.lines l n
    · intro g; rw [q.ready]; exact k.tabled.readyOnce g
    · intro g; rw [q.cq]; exact k.tabled.heldOnce g
    · exact fun ws rs => State.refsSound_quiet (k.tabled.refs ws rs) q.ctx q.refs
    · intro v inFlight
      rw [dropped] at inFlight
      cases inFlight
    · exact fun g untouched => (k.tabled.apart g untouched).quiet q
  · intro g; rw [q.cq]; exact k.bounded g

/-! ## The moves -/

/-- The record alone is written, of a context that is and stays on no list. -/
theorem Moved.setCtx (h : HostNo) (unready : x.state ≠ .ready) (unheld : x.state ≠ .held)
    (share : ∀ u, x.share u = (s.ctx c).share u) : Moved s (s.setCtx c x) c h x where
  ctx := State.ctx_setCtx s c x
  ready g := by rw [if_neg fun e => unready e.2]; exact .rfl
  held g := by rw [if_neg fun e => unheld e.2]; exact .rfl
  cq _ _ := rfl
  wd _ := rfl
  port _ := rfl
  weight _ := rfl
  service := rfl
  bound _ _ _ := .rfl
  refs u _ := by rw [share]; rfl

/-- The record is written READY and the context enters its owner's ready list, at the tail or at the head. -/
theorem Moved.enter {l : List CtxNo} (ready : x.state = .ready) (entered : l.Perm (c :: s.readyList h))
    (share : ∀ u, x.share u = (s.ctx c).share u) : Moved s ((s.setCtx c x).setReady h l) c h x where
  ctx := State.ctx_setCtx s c x
  ready g := by
    rw [State.readyList_setReady]
    by_cases same : g = h
    · subst same; simpa [ready] using entered
    · simp [same]
  held g := by rw [if_neg fun e => by simp [ready] at e]; exact .rfl
  cq _ _ := rfl
  wd _ := rfl
  port _ := rfl
  weight _ := rfl
  service := rfl
  bound _ _ _ := .rfl
  refs u _ := by rw [share]; rfl

/-- The record is written HELD and the context enters its owner's held list. -/
theorem Moved.hold (held : x.state = .held) (share : ∀ u, x.share u = (s.ctx c).share u) :
    Moved s ((s.setCtx c x).setCq h { s.cq h with held := (s.cq h).held ++ [c] }) c h x where
  ctx := State.ctx_setCtx s c x
  ready g := by rw [if_neg fun e => by simp [held] at e]; exact .rfl
  held g := by
    rw [State.cq_setCq]
    by_cases same : g = h
    · subst same; simp [held]
    · simp [same]
  cq g other := State.cq_setCq_ne _ _ _ _ other
  wd _ := rfl
  port _ := rfl
  weight _ := rfl
  service := rfl
  bound _ _ _ := .rfl
  refs u _ := by rw [share]; rfl

/-- A released window has lost the roles of the context. -/
theorem Released.refs {s t : State} {c : CtxNo} (r : Released s t c) (u : WinNo) :
    (t.window u).refs = (s.window u).refs - (s.ctx c).roles u := by
  rw [r.windows]
  split
  · next closes => exact (Nat.sub_eq_zero_of_le closes.2.2).symm
  · rfl

theorem Released.bound {s t : State} {c : CtxNo} (r : Released s t c) (n : LineNo) :
    (t.line n).bound =
      if (s.ctx c).trigger.lineNo = some n ∧ (s.line n).bound = some c then none else (s.line n).bound := by
  rw [r.lines]
  split <;> rfl

/-- A started context gives up its resources and is written in an unstarted state, on no list. -/
theorem Moved.release (started : (s.ctx c).state.started = true) (unstarted : x.state.started = false) (h : HostNo) :
    Moved s ((s.releaseResources c).setCtx c x) c h x where
  ctx d := by rw [State.ctx_setCtx, State.ctx_releaseResources]
  ready g := by
    have unready : x.state ≠ .ready := fun e => by simp [e, CtxState.started] at unstarted
    simp [unready]
  held g := by
    have unheld : x.state ≠ .held := fun e => by simp [e, CtxState.started] at unstarted
    simp [unheld]
  cq g _ := by simp
  wd g := by simp
  port g := by simp
  weight g := by simp
  service := by simp
  bound n d other := by
    rw [State.line_setCtx, (State.releaseResources_released s c).bound]
    split
    · next e => simp [e.2, Ne.symm other]
    · rfl
  refs u enough := by
    rw [Ctx.share_started started] at enough ⊢
    rw [Ctx.share_unstarted unstarted, State.window_setCtx, (State.releaseResources_released s c).refs]
    omega

/-- After the release no line is bound to the context, if the lines were sound. -/
theorem State.releaseResources_unbound (bound : ∀ n, (s.line n).bound = some c → (s.ctx c).trigger.lineNo = some n) (n : LineNo) :
    ((s.releaseResources c).line n).bound ≠ some c := by
  rw [(State.releaseResources_released s c).bound]
  split
  · nofun
  · next e => exact fun is => e ⟨bound n is, is⟩

/-- A loose context is written in an unstarted state, with its resources given up. -/
theorem Tabled.settleReleased (k : Tabled o F s (some c)) (owner : (s.ctx c).owner = some h)
    (unstarted : x.state.started = false) (after : ∀ g, x.owner = some g → g = h) (record : CtxSound x)
    : Tabled o F ((s.releaseResources c).setCtx c x) none := by
  have l := k.loose c rfl
  refine k.settle (Moved.release l.started unstarted h) owner after record
    (fun active => by rw [active] at unstarted; cases unstarted) fun sound n => ?_
  rw [State.line_setCtx]
  refine ⟨fun is => absurd is (State.releaseResources_unbound (fun m e => ((l.lines sound m).1 e).2) n), fun e => ?_⟩
  rw [unstarted] at e
  cases e.1

/-- A loose context is written in a started state that is on no list. -/
theorem Tabled.settleSuspended (k : Tabled o F s (some c)) (owner : (s.ctx c).owner = some h) (state : x.state = .suspended)
    (same : x.owner = (s.ctx c).owner ∧ x.trigger = (s.ctx c).trigger ∧ x.usedWindows = (s.ctx c).usedWindows)
    (record : CtxSound x) : Tabled o F (s.setCtx c x) none := by
  have l := k.loose c rfl
  obtain ⟨owns, trigger, windows⟩ := same
  have share : ∀ u, x.share u = (s.ctx c).share u := fun u => by rw [Ctx.share, Ctx.share, windows, state, l.started]; rfl
  refine k.settle (Moved.setCtx h (by simp [state]) (by simp [state]) share) owner
    (fun g e => Option.some.inj (e.symm.trans (owns.trans owner))) record (by simp [state]) fun sound n => ?_
  rw [trigger, state, State.line_setCtx, l.lines sound n, l.started]
  rfl

/-- A loose context is written READY and enters its owner's ready list. -/
theorem Tabled.settleReady {l : List CtxNo} (k : Tabled o F s (some c)) (owner : (s.ctx c).owner = some h) (state : x.state = .ready)
    (entered : l.Perm (c :: s.readyList h))
    (same : x.owner = (s.ctx c).owner ∧ x.trigger = (s.ctx c).trigger ∧ x.usedWindows = (s.ctx c).usedWindows)
    (record : CtxSound x) : Tabled o F ((s.setCtx c x).setReady h l) none := by
  have loose := k.loose c rfl
  obtain ⟨owns, trigger, windows⟩ := same
  have share : ∀ u, x.share u = (s.ctx c).share u := fun u => by rw [Ctx.share, Ctx.share, windows, state, loose.started]; rfl
  refine k.settle (Moved.enter state entered share) owner
    (fun g e => Option.some.inj (e.symm.trans (owns.trans owner))) record (by simp [state]) fun sound n => ?_
  rw [trigger, state, State.line_setReady, State.line_setCtx, loose.lines sound n, loose.started]
  rfl

/-! ## The disposition of a run end (R23, R136, R141) -/

theorem perm_tail (l : List CtxNo) (c : CtxNo) : (l ++ [c]).Perm (c :: l) := List.perm_append_singleton c l

theorem Ctx.reloaded_counts {x : Ctx} (counted : x.count ≠ 0) : CountsSound x.reloaded where
  sum _ := by simp [Ctx.reloaded]
  waiting _ := counted
  counted _ := counted

theorem Ctx.claimedAgain_counts {x : Ctx} (counted : x.count ≠ 0) : CountsSound x.claimedAgain where
  sum started := by cases started
  waiting waits := by rcases waits with e | e <;> cases e
  counted _ := counted

theorem Tabled.reload (k : Tabled o F s (some c)) (owner : (s.ctx c).owner = some h) (clear : (s.ctx c).abortPending = false)
    : Tabled o F (s.reload c h) none := by
  have l := k.loose c rfl
  have record : CtxSound (s.ctx c).reloaded := by
    refine ⟨?_, ?_, fun set => ?_, nofun, Ctx.reloaded_counts l.counted⟩
    · simp only [Ctx.reloaded, owner]
      split <;> simp
    · simp only [Ctx.reloaded]
      split <;> simp
    · simp [Ctx.reloaded, clear] at set
  rw [State.reload_eq]
  split
  · next suspends => exact k.settleSuspended owner (if_pos suspends) ⟨rfl, rfl, rfl⟩ record
  · next goes => exact k.settleReady owner (if_neg goes) (perm_tail _ _) ⟨rfl, rfl, rfl⟩ record

theorem Tabled.toClaimed (k : Tabled o F s (some c)) (owner : (s.ctx c).owner = some h) (clear : (s.ctx c).abortPending = false)
    : Tabled o F (s.toClaimed c) none := by
  refine k.settleReleased (x := (s.ctx c).claimedAgain) owner rfl (fun g e => Option.some.inj (e.symm.trans owner))
    ⟨?_, ?_, fun set => ?_, nofun, Ctx.claimedAgain_counts (k.loose c rfl).counted⟩
  · simp [Ctx.claimedAgain, owner]
  · simp [Ctx.claimedAgain]
  · simp [Ctx.claimedAgain, clear] at set

end

end Sys2Proof.Machine
end

section
/-! SUPPORT. Starts and run ends against what a step keeps: a start takes a claimed context to its ready list, and a run end is
posted or held. -/

namespace Sys2Proof.Machine

/-! ## Acts on one host's port, weight and queue -/

/-- A change of the state that concerns host `h` alone, in its port, its weight and its queue, but not its held list. -/
structure Own (s t : State) (h : HostNo) : Prop where
  ctx : ∀ c, t.ctx c = s.ctx c
  ready : ∀ g, t.readyList g = s.readyList g
  held : ∀ g, (t.cq g).held = (s.cq g).held
  cq : ∀ g, g ≠ h → t.cq g = s.cq g
  wd : ∀ g, t.wd g = s.wd g
  port : ∀ g, g ≠ h → t.port g = s.port g
  weight : ∀ g, g ≠ h → t.weight g = s.weight g
  refs : ∀ u, (t.window u).refs = (s.window u).refs
  bound : ∀ n, (t.line n).bound = (s.line n).bound
  service : t.engine.service = s.engine.service

section
variable {o : State} {F : HostNo → Prop} {s t : State} {w : Option CtxNo} {c : CtxNo} {h : HostNo}

theorem Tabled.own (k : Tabled o F s w) (q : Own s t h) (mine : ¬F h) : Tabled o F t w where
  placed c other := (k.placed c other).same ⟨q.ctx c, fun g => by rw [q.ready], fun g => by rw [q.held], fun n => by rw [q.bound],
    by rw [State.serving, q.service]; rfl⟩ q.wd
  loose c is := (k.loose c is).same (q.ctx c) (fun g => by rw [q.ready]; exact id) (fun g => by rw [q.held]; exact id)
    (fun n => by rw [q.bound]) (by rw [State.serving, q.service]; exact id) q.wd
  readyOnce g := by rw [q.ready]; exact k.readyOnce g
  heldOnce g := by rw [q.held]; exact k.heldOnce g
  refs ws rs := State.refsSound_quiet (k.refs ws rs) q.ctx q.refs
  served v inFlight := by rw [q.ctx]; exact k.served v (q.service ▸ inFlight)
  apart g untouched := by
    have other : g ≠ h := fun same => mine (same ▸ untouched)
    have a := k.apart g untouched
    exact ⟨(q.port g other).trans a.port, (q.cq g other).trans a.cq, (q.wd g).trans a.wd, (q.weight g other).trans a.weight,
      fun d => by rw [q.ctx]; exact a.mine d, fun d => by rw [q.ctx]; exact a.others d⟩

theorem Own.setCq {q : Cq} (held : q.held = (s.cq h).held) : Own s (s.setCq h q) h where
  ctx _ := rfl
  ready _ := rfl
  held g := by
    rw [State.cq_setCq]
    split
    · next same => rw [same]; exact held
    · rfl
  cq g other := State.cq_setCq_ne _ _ _ _ other
  wd _ := rfl
  port _ _ := rfl
  weight _ _ := rfl
  refs _ := rfl
  bound _ := rfl
  service := rfl

theorem Own.setPort (s : State) (h : HostNo) (p : Port) : Own s (s.setPort h p) h where
  ctx _ := rfl
  ready _ := rfl
  held _ := rfl
  cq _ _ := rfl
  wd _ := rfl
  port _ other := State.port_setPort_ne _ _ _ _ other
  weight _ _ := rfl
  refs _ := rfl
  bound _ := rfl
  service := rfl

theorem Own.setWeight (s : State) (h : HostNo) (n : Nat) : Own s (s.setWeight h n) h where
  ctx _ := rfl
  ready _ := rfl
  held _ := rfl
  cq _ _ := rfl
  wd _ := rfl
  port _ _ := rfl
  weight _ other := State.weight_setWeight_ne _ _ _ _ other
  refs _ := rfl
  bound _ := rfl
  service := rfl

theorem Kept.own (k : Kept o F s w) (q : Own s t h) (mine : ¬F h) (bounded : (t.cq h).bounded) : Kept o F t w where
  tabled := k.tabled.own q mine
  bounded g := by
    by_cases same : g = h
    · rw [same]; exact bounded
    · rw [q.cq g same]; exact k.bounded g

/-- A record that has changed in nothing that a service repeats. -/
theorem ServiceMatches.recast {x y : Ctx} {v : Service} (m : ServiceMatches x v) (kind : y.kind = x.kind) (unit : y.unit = x.unit)
    (trigger : y.trigger = x.trigger) (srcWin : y.srcWin = x.srcWin) (srcStep : y.srcStep = x.srcStep)
    (dstWin : y.dstWin = x.dstWin) (dstStep : y.dstStep = x.dstStep) (residual : y.residual = x.residual) :
    ServiceMatches y v :=
  ⟨m.kind.trans kind.symm, m.unit.trans unit.symm, m.trigger.trans trigger.symm, m.srcWin.trans srcWin.symm,
    m.srcStep.trans srcStep.symm, m.dstWin.trans dstWin.symm, m.dstStep.trans dstStep.symm, by rw [residual]; exact m.left⟩

/-! ## A start (R17, R18) -/

theorem Moved.start (may : MayStart s c h) : Moved s (s.takeStart c h) c h
    { (s.ctx c).restart with state := .ready, abortPending := false, suspendPending := false } where
  ctx := State.ctx_takeStart s c h
  ready g := by
    rw [(State.takeStart_started s c h).listed]
    by_cases same : g = h
    · simp [same]
    · simp [same]
  held g := by simp
  cq g _ := by simp
  wd g := by simp
  port g := by simp
  weight g := by simp
  service := by simp
  bound n d other := by
    rw [(State.takeStart_started s c h).lines]
    split
    · next names => simp [may.line n names, Ne.symm other]
    · rfl
  refs u _ := by
    have unstarted : (s.ctx c).state.started = false := by rw [may.claimed]; rfl
    rw [(State.takeStart_started s c h).windows, Ctx.share_unstarted unstarted, Ctx.share_started rfl]
    rfl

theorem Ctx.restart_sound {x : Ctx} (owned : x.owner ≠ none) (counted : x.count ≠ 0) (unended : x.pendingEnd = none) :
    CtxSound { x.restart with state := .ready, abortPending := false, suspendPending := false } where
  owned := by simpa [Ctx.restart] using owned
  pendingEnd := by simp [Ctx.restart, unended]
  abortPending := nofun
  suspendPending := nofun
  counts := ⟨fun _ => by simp [Ctx.restart], fun _ => counted, fun _ => counted⟩

/-- A claimed context that passes its checks is started. -/
theorem Tabled.takeStart (k : Tabled o F s none) (owner : (s.ctx c).owner = some h) (mine : ¬F h)
    (checked : s.startCheck c h = none) : Tabled o F (s.takeStart c h) none := by
  have may := (State.startCheck_none s c h).1 checked
  have p := k.placed c nofun
  have idle : (s.ctx c).state ≠ .active := by simp [may.claimed]
  have own : ∀ g, (s.ctx c).owner = some g → g = h := fun g e => Option.some.inj (e.symm.trans owner)
  have unended : (s.ctx c).pendingEnd = none := by
    cases e : (s.ctx c).pendingEnd with
    | none => rfl
    | some _ => exact absurd (p.record.pendingEnd.1 (by simp [e])) (by simp [may.claimed])
  refine k.move (Moved.start may) mine nofun (fun _ _ => .rfl) (p.off_ready (by simp [may.claimed]))
    (p.off_held (by simp [may.claimed])) own own
    (Ctx.restart_sound (by simp [owner]) (p.record.counts.counted (.inr may.parts.2.1)) unended)
    ⟨nofun, fun e => absurd (p.active.2 e) idle⟩ (fun _ _ _ => nofun) (p.gone h) (fun sound n => ?_) fun v inFlight same => ?_
  · have unbound := p.lines sound n
    rw [may.claimed] at unbound
    have free : (s.line n).bound ≠ some c := fun e => by cases (unbound.1 e).1
    rw [(State.takeStart_started s c h).lines]
    split
    · next names => exact ⟨fun _ => ⟨rfl, names⟩, fun _ => rfl⟩
    · next names => exact ⟨fun e => absurd e free, fun e => absurd e.2 names⟩
  · exact absurd (p.active.2 (by rw [State.serving, inFlight, ← same]; rfl)) idle

/-! ## A posting and a held end (R134, R136, R141) -/

theorem Tabled.dispose (k : Tabled o F s (some c)) (owner : (s.ctx c).owner = some h) (clear : (s.ctx c).abortPending = false) (e : Cause) : Tabled o F (s.dispose c h e).1 none := by
  have claimed := k.toClaimed owner clear
  obtain ⟨g, owner', mine⟩ := (k.loose c rfl).owner
  obtain rfl : h = g := Option.some.inj (owner.symm.trans owner')
  unfold State.dispose
  dsimp only
  split
  · exact k.reload owner clear
  · split
    · split
      · next may => exact claimed.takeStart may.1 mine may.2
      · exact claimed
    · exact claimed

/-- The pending flags of the loose context may be cleared: nothing that a step keeps rests on them. -/
theorem Tabled.clearAbort (k : Tabled o F s (some c)) :
    Tabled o F (s.setCtx c { s.ctx c with abortPending := false }) (some c) := by
  have l := k.loose c rfl
  have others : ∀ d, d ≠ c → (s.setCtx c { s.ctx c with abortPending := false }).ctx d = s.ctx d :=
    fun d other => State.ctx_setCtx_ne _ _ _ _ other
  have own := State.ctx_setCtx_self s c { s.ctx c with abortPending := false }
  obtain ⟨h, owner, mine⟩ := l.owner
  constructor
  · intro d other
    exact (k.placed d other).same ⟨others d fun same => other (congrArg some same.symm), fun _ => .rfl, fun _ => .rfl,
      fun _ => .rfl, .rfl⟩ fun _ => rfl
  · rintro d ⟨⟩
    exact ⟨by rw [own]; exact l.started, by rw [own]; exact l.owner, l.offReady, l.offHeld, l.idle,
      by rw [own]; exact l.pendingEnd, by rw [own]; exact l.sum, by rw [own]; exact l.counted, by rw [own]; exact l.gone,
      by rw [own]; exact l.lines⟩
  · exact k.readyOnce
  · exact k.heldOnce
  · intro ws rs
    refine State.refsSound_recast (k.refs ws rs) others fun u _ => ?_
    rw [own]
    rfl
  · intro v inFlight
    obtain ⟨isMatch, left⟩ := k.served v inFlight
    rw [State.ctx_setCtx]
    split
    · next same => rw [same] at isMatch left; exact ⟨isMatch.recast rfl rfl rfl rfl rfl rfl rfl rfl, left⟩
    · exact ⟨isMatch, left⟩
  · intro g untouched
    have other : (s.ctx c).owner ≠ some g := fun e => mine (Option.some.inj (owner.symm.trans e) ▸ untouched)
    exact (k.apart g untouched).recast others other (by rw [own]; exact other) rfl rfl rfl rfl

/-- A posting with room in the queue, where contexts are held only if it fills the queue. -/
theorem Tabled.post (k : Tabled o F s (some c)) (owner : (s.ctx c).owner = some h) (clear : (s.ctx c).abortPending = false) (bounded : ∀ g, g ≠ h → (s.cq g).bounded) (room : (s.cq h).queue.length < queueDepth)
    (fills : (s.cq h).held ≠ [] → (s.cq h).queue.length + 1 = queueDepth) (e : RunEnd) : Kept o F (s.post c h e) none := by
  obtain ⟨g, owner', mine⟩ := (k.loose c rfl).owner
  obtain rfl : h = g := Option.some.inj (owner.symm.trans owner')
  refine ⟨(k.dispose owner clear e.cause).own (Own.setCq rfl) mine, fun g => ?_⟩
  rw [State.cq_post]
  split
  · simpa [Cq.bounded, Nat.succ_le_iff] using ⟨fills, room⟩
  · next other => exact bounded g other

theorem Tabled.hold (k : Tabled o F s (some c)) (owner : (s.ctx c).owner = some h) (clear : (s.ctx c).abortPending = false) (e : RunEnd) : Tabled o F (s.hold c h e) none := by
  have l := k.loose c rfl
  have record : CtxSound { s.ctx c with state := .held, pendingEnd := some e } := by
    refine ⟨by simp [owner], by simp, fun set => ?_, fun _ => .inr rfl, fun _ => l.sum, nofun, fun _ => l.counted⟩
    · rw [clear] at set
      cases set
  refine k.settle (Moved.hold rfl fun u => ?_) owner (fun g e => Option.some.inj (e.symm.trans owner)) record nofun ?_
  · rw [Ctx.share_started l.started, Ctx.share_started rfl]
    rfl
  · intro sound n
    have lines := l.lines sound n
    rw [l.started] at lines
    exact lines

/-- A run end of the loose context is posted or held. -/
theorem Kept.runEnds (k : Kept o F s (some c)) (owner : (s.ctx c).owner = some h) (e : RunEnd) :
    Kept o F (s.runEnds c h e) none := by
  have clear := k.tabled.clearAbort
  have own := State.ctx_setCtx_self s c { s.ctx c with abortPending := false }
  obtain ⟨full, most⟩ := k.bounded h
  unfold State.runEnds
  dsimp only
  split
  · next room =>
    exact clear.post (by rw [own]; exact owner) (by rw [own]) (fun g _ => k.bounded g) room
      (fun holds => absurd (full holds) (Nat.ne_of_lt room)) e
  · next room =>
    have held := clear.hold (by rw [own]; exact owner) (by rw [own]) e
    refine ⟨held, fun g => ?_⟩
    rw [State.hold, State.cq_setCq]
    split
    · exact ⟨fun _ => Nat.le_antisymm most (Nat.le_of_not_lt room), most⟩
    · exact k.bounded g

end

end Sys2Proof.Machine
end

section
/-! SUPPORT. What the Scheduler and the ports do inside a step, against what a step keeps: a selection begins a service, the bus is
left, a command is answered, a withdrawal goes on, a context is freed. -/

namespace Sys2Proof.Machine

section
variable {o : State} {F : HostNo → Prop} {s t : State} {w : Option CtxNo} {c : CtxNo} {h : HostNo}

/-! ## Acts of the engine -/

theorem State.service_reevaluate (s : State) : s.reevaluate.engine.service = s.engine.service := by
  rw [State.engine_reevaluate]

theorem Kept.reevaluate (k : Kept o F s w) : Kept o F s.reevaluate w :=
  k.aside (.reevaluate s) s.service_reevaluate

theorem Kept.countChoice (k : Kept o F s w) : Kept o F s.countChoice w := k.aside (.countChoice s) rfl

/-- The engine is written, but for its service. -/
theorem Kept.setEngine (k : Kept o F s w) {e : Engine} (service : e.service = s.engine.service) : Kept o F (s.setEngine e) w :=
  k.aside (.setEngine s e) service

/-- The engine is written, its service in nothing that its context repeats. -/
theorem Kept.serve (k : Kept o F s w) {e : Engine} {v u : Service} (before : s.engine.service = some v)
    (after : e.service = some u) (agrees : Agrees v u) : Kept o F (s.setEngine e) w :=
  k.work (.setEngine s e) before after agrees

theorem Kept.pastLate (k : Kept o F s w) (r : Rival) : Kept o F (s.pastLate r) w := k.setEngine rfl

theorem Kept.issueBeat (k : Kept o F s w) : Kept o F s.issueBeat w := by
  unfold State.issueBeat
  split
  · exact k
  · next v service => exact k.serve service rfl ⟨rfl, id⟩

theorem Quiet.setArmed (s : State) (c : CtxNo) (b : Bool) : Quiet s (s.setArmed c b) := by
  unfold State.setArmed
  split
  · exact Quiet.setLine _ _ rfl
  · exact Quiet.refl s

theorem Kept.setArmed (k : Kept o F s w) (c : CtxNo) (b : Bool) : Kept o F (s.setArmed c b) w :=
  k.aside (.setArmed s c b) (by simp)

/-! ## A selection (R52, R59, R68) -/

theorem State.mem_eligible {s : State} {h : HostNo} {c : CtxNo} (eligible : c ∈ s.eligible h) :
    s.inWithdrawal h = false ∧ c ∈ s.readyList h := by
  unfold State.eligible at eligible
  split at eligible
  · cases eligible
  · next stays => exact ⟨by simpa using stays, (List.mem_filter.1 eligible).1⟩

theorem State.choose_eligible {s : State} {slot : Nat} {c : CtxNo} (chosen : s.choose = some (slot, c)) :
    ∃ h, c ∈ s.eligible h := by
  obtain ⟨n, _, found⟩ := List.exists_of_findSome?_eq_some chosen
  unfold State.atSlot at found
  split at found
  · next h _ =>
    obtain ⟨d, urgent, same⟩ := Option.map_eq_some_iff.1 found
    cases same
    exact ⟨h, (s.mostUrgent_spec _ _ urgent).1⟩
  · cases found

/-- A withdrawal that has begun keeps its host's contexts from selection (R64). -/
theorem State.step_begin_of_not_inWithdrawal {s : State} (stays : s.inWithdrawal h = false) {y : Withdrawal}
    (withdraws : s.wd h = some y) : y.step = .begin := by
  simpa [State.inWithdrawal, withdraws] using stays

theorem newService_matches {x : Ctx} (left : x.residual ≠ 0) (c : CtxNo) :
    ServiceMatches { x with state := .active } (newService c x) := by
  have pos : 0 < x.residual.toNat := Nat.pos_of_ne_zero fun e => left (BitVec.eq_of_toNat_eq e)
  refine ⟨rfl, rfl, rfl, rfl, rfl, rfl, rfl, ?_⟩
  simp only [newService, serviceLength]
  split <;> omega

/-- An eligible context begins its service: it leaves its ready list and is ACTIVE. -/
theorem Kept.beginService (k : Kept o F s w) (idle : s.engine.service = none) (eligible : c ∈ s.eligible h) (slot : Nat) :
    Kept o F (s.beginService slot c) w := by
  obtain ⟨stays, listed⟩ := State.mem_eligible eligible
  have settled : w ≠ some c := fun loose => (k.tabled.loose c loose).offReady h listed
  have p := k.tabled.placed c settled
  obtain ⟨ready, owner⟩ := (p.ready h).1 listed
  have frame := State.beginService_frame owner slot
  have service : (s.beginService slot c).engine.service = some (newService c (s.ctx c)) := by
    rw [State.engine_beginService owner]; rfl
  have serving : (s.beginService slot c).serving = some c := by rw [State.serving, service]; rfl
  have unserved : s.serving = none := by rw [State.serving, idle]; rfl
  have own : (s.beginService slot c).ctx c = { s.ctx c with state := .active } := by rw [State.ctx_beginService, if_pos rfl]
  have others : ∀ d, d ≠ c → (s.beginService slot c).ctx d = s.ctx d := fun d other => by
    rw [State.ctx_beginService, if_neg other]
  have cq : ∀ g, (s.beginService slot c).cq g = s.cq g := fun g => by rw [frame]; rfl
  have wd : ∀ g, (s.beginService slot c).wd g = s.wd g := fun g => by rw [frame]; rfl
  have left := p.record.counts.waiting (.inl ready)
  have erased : ∀ g, (s.beginService slot c).readyList g = (s.readyList g).erase c := fun g => by
    rw [State.readyList_beginService owner]
    split
    · next same => rw [same]
    · next other => exact (p.erase_ready owner other).symm
  have bound : ∀ n, ((s.beginService slot c).line n).bound = (s.line n).bound := fun n => by
    rw [State.line_beginService owner]
    split <;> rfl
  have started : (s.ctx c).state.started = true := by rw [ready]; rfl
  refine ⟨k.tabled.recast (c := c) settled (fun _ _ => .rfl) (fun d other => ⟨others d other, fun g => ?_, fun g => by rw [cq],
    fun n => by rw [bound], by simp [serving, unserved, Ne.symm other]⟩) wd ?_ (fun g => ?_) (fun g => ?_) (fun u _ => ?_) ?_
    fun g untouched => ?_, fun g => by rw [cq]; exact k.bounded g⟩
  · rw [erased, List.mem_erase_of_ne other]
  · constructor
    · rw [own]
      refine ⟨by simp [owner], ?_, fun _ => rfl, fun _ => .inl rfl, fun _ => p.record.counts.sum started, nofun,
        fun _ => p.record.counts.counted (.inl started)⟩
      have unended : ¬(s.ctx c).pendingEnd.isSome = true := fun e => by simp [p.record.pendingEnd.1 e] at ready
      simpa using unended
    · intro g
      rw [erased, own]
      exact ⟨fun on => absurd on (k.tabled.readyOnce g).not_mem_erase, nofun⟩
    · intro g
      rw [cq, own]
      exact ⟨fun on => absurd on (p.off_held (by simp [ready]) g), nofun⟩
    · simp [own, serving]
    · intro g y withdraws past owned
      rw [wd] at withdraws
      rw [own] at owned
      obtain rfl : h = g := Option.some.inj (owner.symm.trans owned)
      exact absurd (State.step_begin_of_not_inWithdrawal stays withdraws) (by simp [past])
    · intro g
      rw [wd, own]
      exact p.gone g
    · intro sound n
      rw [bound, own, p.lines sound n, started]
      rfl
  · rw [erased]; exact (k.tabled.readyOnce g).erase c
  · rw [cq]; exact k.tabled.heldOnce g
  · rw [own, Ctx.share_started started, Ctx.share_started rfl, frame]
    rfl
  · intro v inFlight
    obtain rfl := Option.some.inj (service.symm.trans inFlight)
    change ServiceMatches ((s.beginService slot c).ctx c) _ ∧ (_ → ((s.beginService slot c).ctx c).residual ≠ 0)
    rw [own]
    exact ⟨newService_matches left c, fun _ => left⟩
  · have a := k.tabled.apart g untouched
    refine ⟨?_, (cq g).trans a.cq, (wd g).trans a.wd, ?_, fun d owned => ?_, fun d other => ?_⟩
    · rw [frame]; exact a.port
    · rw [frame]; exact a.weight
    · by_cases same : d = c
      · subst same
        rcases a.mine d owned with kept | ⟨-, begun⟩
        · rw [own, kept]
          exact .inr ⟨kept ▸ ready, rfl⟩
        · rw [begun] at ready
          cases ready
      · rw [others d same]
        exact a.mine d owned
    · by_cases same : d = c
      · subst same
        rw [own]
        exact a.others d other
      · rw [others d same]
        exact a.others d other

theorem Kept.releaseBus (k : Kept o F s w) : Kept o F s.releaseBus w := Kept.reevaluate (k.setEngine rfl)

theorem Kept.selectNow (k : Kept o F s w) (idle : s.engine.service = none) (strobe : Bool) : Kept o F (s.selectNow strobe) w := by
  unfold State.selectNow
  split
  · next slot c chosen =>
    obtain ⟨h, eligible⟩ := State.choose_eligible chosen
    have begun := k.beginService idle eligible slot
    cases strobe
    · exact begun.reevaluate
    · exact begun.issueBeat.reevaluate
  · exact k.releaseBus

theorem Kept.select (k : Kept o F s w) (idle : s.engine.service = none) : Kept o F s.select w := by
  unfold State.select
  split
  · exact k.countChoice.reevaluate
  · exact k.countChoice.selectNow idle _

/-- A grant is taken, by an engine that has no service in ASKING. -/
theorem Kept.takeGrant (k : Kept o F s w) (asks : s.engine.state = .asking → s.engine.service = none) :
    Kept o F s.takeGrant w := by
  have owned : Kept o F (s.setEngine { s.engine with lown := true }) w := k.setEngine rfl
  unfold State.takeGrant
  dsimp only
  split
  · next asking => exact owned.select (asks asking)
  · split
    · exact Kept.issueBeat (owned.setEngine rfl)
    · exact owned
  · exact owned

theorem Kept.leaveBus (k : Kept o F s w) (idle : s.engine.service = none) : Kept o F s.leaveBus w := by
  have left : Kept o F s.busLeft w := Kept.reevaluate (k.setEngine rfl)
  rw [State.leaveBus_eq]
  split
  · exact left.takeGrant fun _ => by rw [State.busLeft, State.service_reevaluate]; exact idle
  · exact left

theorem Kept.afterService (k : Kept o F s w) (idle : s.engine.service = none) : Kept o F s.afterService w := by
  rw [State.afterService_eq]
  split
  · exact k.select idle
  · exact k.leaveBus idle

/-! ## The ports and the withdrawals of a host that the step concerns -/

/-- A withdrawal goes on, to a step that its host's contexts have come to. -/
theorem Kept.setWd (k : Kept o F s w) (mine : ¬F h) {x : Option Withdrawal}
    (cut : ∀ y, x = some y → y.step = .contexts → ∀ c, w ≠ some c → (s.ctx c).owner = some h → (s.ctx c).state ≠ .active)
    (gone : ∀ y, x = some y → (y.step = .windows ∨ y.step = .queue ∨ y.step = .weight) → ∀ c, (s.ctx c).owner ≠ some h) :
    Kept o F (s.setWd h x) w := by
  have later : ∀ c (p : ∀ g y, s.wd g = some y → (y.step = .windows ∨ y.step = .queue ∨ y.step = .weight) →
      (s.ctx c).owner ≠ some g), ∀ g y, (s.setWd h x).wd g = some y →
      (y.step = .windows ∨ y.step = .queue ∨ y.step = .weight) → (s.ctx c).owner ≠ some g := by
    intro c p g y withdraws past
    rw [State.wd_setWd] at withdraws
    split at withdraws
    · next same => rw [same]; exact gone y withdraws past c
    · exact p g y withdraws past
  refine ⟨⟨fun c settled => ?_, fun c is => ?_, k.tabled.readyOnce, k.tabled.heldOnce, k.tabled.refs, k.tabled.served, ?_⟩,
    k.bounded⟩
  · obtain ⟨record, ready, held, active, before, past, lines⟩ := k.tabled.placed c settled
    refine ⟨record, ready, held, active, fun g y withdraws step owned => ?_, later c past, lines⟩
    rw [State.wd_setWd] at withdraws
    split at withdraws
    · next same => exact cut y withdraws step c settled (same ▸ owned)
    · exact before g y withdraws step owned
  · obtain ⟨started, owner, offReady, offHeld, idle, pendingEnd, sum, counted, past, lines⟩ := k.tabled.loose c is
    exact ⟨started, owner, offReady, offHeld, idle, pendingEnd, sum, counted, later c past, lines⟩
  · intro g untouched
    have a := k.tabled.apart g untouched
    have other : g ≠ h := fun same => mine (same ▸ untouched)
    exact ⟨a.port, a.cq, (State.wd_setWd_ne _ _ _ _ other).trans a.wd, a.weight, a.mine, a.others⟩

/-- A withdrawal before its step 3 says nothing of the contexts. -/
theorem Kept.setWd_early (k : Kept o F s w) (mine : ¬F h) {x : Option Withdrawal}
    (early : ∀ y, x = some y → y.step = .begin ∨ y.step = .cut ∨ y.step = .cutting) : Kept o F (s.setWd h x) w := by
  refine k.setWd mine (fun y is past => ?_) fun y is past => ?_
  · rcases early y is with e | e | e <;> simp [e] at past
  · rcases early y is with e | e | e <;> simp [e] at past

theorem Kept.setPort (k : Kept o F s w) (mine : ¬F h) (p : Port) : Kept o F (s.setPort h p) w :=
  k.own (.setPort s h p) mine (k.bounded h)

theorem Kept.beginDue (k : Kept o F s w) (mine : ¬F h) : Kept o F (s.beginDue h) w := by
  unfold State.beginDue
  split
  · split
    · exact Kept.reevaluate (k.setWd_early mine fun y is => by cases is; exact .inr (.inl rfl))
    · exact k
  · exact k

theorem Kept.deliver (k : Kept o F s w) (mine : ¬F h) (bytes : List Byte) : Kept o F (s.deliver h bytes) w := by
  unfold State.deliver
  dsimp only
  split
  · exact k.setPort mine _
  · exact (k.setPort mine _).beginDue mine

theorem Kept.waitOn (k : Kept o F s w) (mine : ¬F h) (c : CtxNo) : Kept o F (s.waitOn h c) w := by
  unfold State.waitOn
  dsimp only
  split
  · exact k.setPort mine _
  · exact (k.setPort mine _).beginDue mine

theorem Kept.reply (k : Kept o F s w) (mine : ¬F h) (r : Reply) : Kept o F (s.reply h r) w := by
  cases r with
  | answer bytes => exact k.deliver mine bytes
  | wait c => exact k.waitOn mine c

theorem Kept.answerWaiter (k : Kept o F s w) (mine : ∀ h, (s.ctx c).owner = some h → ¬F h) : Kept o F (s.answerWaiter c) w := by
  unfold State.answerWaiter
  split
  · next h owner =>
    split
    · split
      · exact k.deliver (mine h owner) _
      · exact k
    · exact k
  · exact k

/-! ## A context is freed (R28) -/

theorem State.setReady_same {s : State} {l : List CtxNo} (same : l = s.readyList h) : s.setReady h l = s := by
  subst same
  unfold State.setReady State.readyList
  rw [Vector.set_getElem_self]

theorem State.setCq_same {s : State} {q : Cq} (same : q = s.cq h) : s.setCq h q = s := by
  subst same
  unfold State.setCq State.cq
  rw [Vector.set_getElem_self]

/-- The withdrawal's removal of a context from the lists of its owner. -/
def State.offLists (s : State) (h : HostNo) (c : CtxNo) : State :=
  (s.leaveReady h c).setCq h { s.cq h with held := (s.cq h).held.erase c }

theorem State.freeCtx_eq (s : State) (h : HostNo) (c : CtxNo) :
    s.freeCtx h c = (if (s.ctx c).state.started then (s.offLists h c).releaseResources c else s.offLists h c).setCtx c
      (s.ctx c).freed := rfl

theorem State.offLists_same {s : State} (offReady : c ∉ s.readyList h) (offHeld : c ∉ (s.cq h).held) : s.offLists h c = s := by
  rw [State.offLists, State.leaveReady, State.setReady_same (List.erase_of_not_mem offReady),
    State.setCq_same (by rw [List.erase_of_not_mem offHeld])]

theorem TakenOff.offLists (p : Placed o.linesSound s c) (owner : (s.ctx c).owner = some h) :
    TakenOff s (s.offLists h c) c h where
  ctx _ := rfl
  ready g := by
    by_cases same : g = h
    · rw [State.offLists, State.readyList_setCq, State.readyList_leaveReady, if_pos same, same]
    · rw [State.offLists, State.readyList_setCq, State.readyList_leaveReady, if_neg same, p.erase_ready owner same]
  held g := by
    rw [State.offLists, State.cq_setCq]
    split
    · next same => rw [same]
    · next other => rw [State.cq_leaveReady, p.erase_held owner other]
  cq _ other := State.cq_setCq_ne _ _ _ _ other
  wd _ := rfl
  port _ := rfl
  weight _ := rfl
  window _ := rfl
  line _ := rfl
  service := rfl

theorem Ctx.freed_sound (x : Ctx) : CtxSound x.freed where
  owned := ⟨fun _ => rfl, fun _ => rfl⟩
  pendingEnd := ⟨nofun, nofun⟩
  abortPending := nofun
  suspendPending := nofun
  counts := ⟨nofun, fun waits => by simp [Ctx.freed] at waits, fun used => by
    simp [Ctx.freed, CtxState.started, Parts.empty] at used⟩

theorem Cq.bounded_erase {q : Cq} (bounded : q.bounded) (c : CtxNo) : Cq.bounded { q with held := q.held.erase c } := by
  refine ⟨fun holds => bounded.1 fun e => holds ?_, bounded.2⟩
  simp [e]

/-- A loose context is freed. -/
theorem Kept.freeLoose (k : Kept o F s (some c)) (owner : (s.ctx c).owner = some h) : Kept o F (s.freeCtx h c) none := by
  have l := k.tabled.loose c rfl
  rw [State.freeCtx_eq, State.offLists_same (l.offReady h) (l.offHeld h), if_pos l.started]
  exact ⟨k.tabled.settleReleased owner rfl nofun (s.ctx c).freed_sound, fun g => by simpa using k.bounded g⟩

/-- A context that is not started is written FREE or CLAIMED, with nothing pending. -/
theorem Kept.setUnstarted (k : Kept o F s none) (mine : ¬F h) {x : Ctx} (before : (s.ctx c).state.started = false)
    (after : x.state.started = false) (own : ∀ g, (s.ctx c).owner = some g → g = h) (owns : ∀ g, x.owner = some g → g = h)
    (record : CtxSound x)
    (gone : ∀ y, s.wd h = some y → (y.step = .windows ∨ y.step = .queue ∨ y.step = .weight) → x.owner ≠ some h) :
    Kept o F (s.setCtx c x) none := by
  have p := k.tabled.placed c nofun
  have started : ∀ {y : Ctx} {st : CtxState}, y.state.started = false → st.started = true → y.state ≠ st := by
    rintro y st un is rfl
    rw [un] at is
    cases is
  refine ⟨k.tabled.move (h := h) (Moved.setCtx h (started after rfl) (started after rfl) fun u => ?_) mine nofun (fun _ _ => .rfl)
    (p.off_ready (started before rfl)) (p.off_held (started before rfl)) own owns record
    ⟨fun e => absurd e (started after rfl), fun e => absurd (p.active.2 e) (started before rfl)⟩
    (fun _ _ _ => started after rfl) gone (fun sound n => ?_) fun v inFlight same => ?_, k.bounded⟩
  · rw [Ctx.share_unstarted before, Ctx.share_unstarted after]
  · have lines := p.lines sound n
    rw [before] at lines
    rw [after]
    simpa using lines
  · exact absurd (p.active.2 (by rw [State.serving, inFlight, ← same]; rfl)) (started before rfl)

/-- A context of host `h` that is not in service is freed. -/
theorem Kept.freeCtx (k : Kept o F s none) (mine : ¬F h) (owner : (s.ctx c).owner = some h) (idle : (s.ctx c).state ≠ .active) :
    Kept o F (s.freeCtx h c) none := by
  have p := k.tabled.placed c nofun
  rw [State.freeCtx_eq]
  split
  · next started =>
    have off := k.tabled.takeOff (TakenOff.offLists p owner) owner mine started idle
    refine ⟨off.settleReleased (h := h) owner rfl nofun (s.ctx c).freed_sound, fun g => ?_⟩
    rw [State.cq_setCtx, State.cq_releaseResources, State.offLists, State.cq_setCq]
    split
    · exact Cq.bounded_erase (k.bounded h) c
    · exact k.bounded g
  · next unstarted =>
    have before : (s.ctx c).state.started = false := by simpa using unstarted
    rw [State.offLists_same (p.off_ready (fun e => by simp [e, CtxState.started] at before) h)
      (p.off_held (fun e => by simp [e, CtxState.started] at before) h)]
    exact k.setUnstarted mine before rfl (fun g e => Option.some.inj (e.symm.trans owner)) nofun (s.ctx c).freed_sound
      fun _ _ _ => nofun

end

end Sys2Proof.Machine
end

section
/-! SUPPORT. The acts of the Transfer Engine on the service in flight, against what a step keeps. A service that ends, yields or is
cut makes its context loose for the moment between its removal and the hand-over of its outcome. -/

namespace Sys2Proof.Machine

/-- What the engine's acts rest on: the state is kept so far, and the context in service is of a host whom the step concerns. -/
structure Busy (o : State) (F : HostNo → Prop) (s : State) : Prop where
  kept : Kept o F s none
  mine : ∀ v, s.engine.service = some v → ∀ h, (s.ctx v.ctx).owner = some h → ¬F h

section
variable {o : State} {F : HostNo → Prop} {s t : State} {c : CtxNo} {h : HostNo} {v u : Service}

theorem Busy.setEngine (b : Busy o F s) {e : Engine} (service : e.service = s.engine.service) : Busy o F (s.setEngine e) :=
  ⟨b.kept.setEngine service, fun v inFlight => b.mine v (service ▸ inFlight)⟩

theorem Busy.serve (b : Busy o F s) {e : Engine} (before : s.engine.service = some v) (after : e.service = some u)
    (agrees : Agrees v u) : Busy o F (s.setEngine e) := by
  refine ⟨b.kept.serve before after agrees, fun x inFlight g owner => b.mine v before g ?_⟩
  obtain rfl : u = x := Option.some.inj (after.symm.trans inFlight)
  rw [agrees.ctx] at owner
  exact owner

theorem Busy.countChoice (b : Busy o F s) : Busy o F s.countChoice := ⟨b.kept.countChoice, b.mine⟩

theorem Busy.serving (service : s.engine.service = some v) : s.serving = some v.ctx := by rw [State.serving, service]; rfl

/-- The context in service is ACTIVE, with no end pending. -/
theorem Busy.active (b : Busy o F s) (service : s.engine.service = some v) : (s.ctx v.ctx).state = .active :=
  (b.kept.tabled.placed v.ctx nofun).active.2 (Busy.serving service)

theorem Busy.unended (b : Busy o F s) (service : s.engine.service = some v) : (s.ctx v.ctx).pendingEnd = none := by
  cases e : (s.ctx v.ctx).pendingEnd with
  | none => rfl
  | some _ =>
    have held := (b.kept.tabled.placed v.ctx nofun).record.pendingEnd.1 (by rw [e]; rfl)
    rw [b.active service] at held
    cases held

theorem Busy.drop (b : Busy o F s) (service : s.engine.service = some v) : Kept o F s.withoutService (some v.ctx) :=
  b.kept.drop (.setEngine _ _) (Busy.serving service) rfl (b.mine v service)

/-! ## The outcome of a service (R22, R23) -/

/-- The run of a context may go on: no end is pending, no abort either, and units are left. -/
structure Resumable (x : Ctx) : Prop where
  unended : x.pendingEnd = none
  unaborted : x.abortPending = false
  left : x.residual ≠ 0

theorem Loose.suspended_sound {L : Prop} (l : Loose L F s c) (r : Resumable (s.ctx c)) :
    CtxSound { s.ctx c with state := .suspended, suspendPending := false } where
  owned := by
    obtain ⟨h, owner, -⟩ := l.owner
    simp [owner]
  pendingEnd := by simp [r.unended]
  abortPending set := by simp [r.unaborted] at set
  suspendPending := nofun
  counts := ⟨fun _ => l.sum, fun _ => r.left, fun _ => l.counted⟩

theorem Loose.ready_sound {L : Prop} (l : Loose L F s c) (r : Resumable (s.ctx c)) (goes : (s.ctx c).suspendPending = false) :
    CtxSound { s.ctx c with state := .ready } where
  owned := by
    obtain ⟨h, owner, -⟩ := l.owner
    simp [owner]
  pendingEnd := by simp [r.unended]
  abortPending set := by simp [r.unaborted] at set
  suspendPending set := by simp [goes] at set
  counts := ⟨fun _ => l.sum, fun _ => r.left, fun _ => l.counted⟩

/-- A loose context whose run may go on is SUSPENDED, or READY on its owner's ready list. -/
theorem Kept.place (k : Kept o F s (some c)) (r : Resumable (s.ctx c)) (owner : (s.ctx c).owner = some h) {l : List CtxNo}
    (entered : l.Perm (c :: s.readyList h)) :
    Kept o F (if (s.ctx c).suspendPending = true then s.setCtx c { s.ctx c with state := .suspended, suspendPending := false }
      else (s.setCtx c { s.ctx c with state := .ready }).setReady h l) none := by
  have loose := k.tabled.loose c rfl
  split
  · exact ⟨k.tabled.settleSuspended owner rfl ⟨rfl, rfl, rfl⟩ (loose.suspended_sound r), k.bounded⟩
  · next goes =>
    exact ⟨k.tabled.settleReady owner rfl entered ⟨rfl, rfl, rfl⟩ (loose.ready_sound r (by simpa using goes)), k.bounded⟩

theorem Kept.placeCompleted (k : Kept o F s (some c)) (r : Resumable (s.ctx c)) : Kept o F (s.placeCompleted c) none := by
  obtain ⟨h, owner, -⟩ := (k.tabled.loose c rfl).owner
  rw [State.placeCompleted_owned owner]
  exact k.place r owner (perm_tail _ _)

theorem State.placeYielded_owned (owner : (s.ctx c).owner = some h) :
    s.placeYielded c =
      if (s.ctx c).suspendPending = true then s.setCtx c { s.ctx c with state := .suspended, suspendPending := false }
      else (s.setCtx c { s.ctx c with state := .ready }).enterHead h c := by
  simp only [State.placeYielded, owner]

theorem Kept.placeYielded (k : Kept o F s (some c)) (r : Resumable (s.ctx c)) : Kept o F (s.placeYielded c) none := by
  obtain ⟨h, owner, -⟩ := (k.tabled.loose c rfl).owner
  rw [State.placeYielded_owned owner]
  exact k.place r owner .rfl

theorem State.owner_setCtx {x : Ctx} (same : x.owner = (s.ctx c).owner) (d : CtxNo) :
    ((s.setCtx c x).ctx d).owner = (s.ctx d).owner := by
  rw [State.ctx_setCtx]
  split
  · next is => rw [same, is]
  · rfl

theorem State.owner_placeCompleted (s : State) (c d : CtxNo) : ((s.placeCompleted c).ctx d).owner = (s.ctx d).owner := by
  unfold State.placeCompleted
  dsimp only
  split
  · exact State.owner_setCtx (by rfl) d
  · split
    · exact State.owner_setCtx (by rfl) d
    · rfl

theorem State.owner_placeYielded (s : State) (c d : CtxNo) : ((s.placeYielded c).ctx d).owner = (s.ctx d).owner := by
  unfold State.placeYielded
  dsimp only
  split
  · exact State.owner_setCtx (by rfl) d
  · split
    · exact State.owner_setCtx (by rfl) d
    · rfl

/-- The owner of a loose context is one whom the step concerns. -/
theorem Kept.mine (k : Kept o F s (some c)) {g : HostNo} (owner : (s.ctx c).owner = some g) : ¬F g := by
  obtain ⟨h, owner', mine⟩ := (k.tabled.loose c rfl).owner
  rw [Option.some.inj (owner.symm.trans owner')]
  exact mine

theorem Kept.endRun (k : Kept o F s (some c)) (e : RunEnd) : Kept o F (s.endRun c e) none := by
  obtain ⟨h, owner, -⟩ := (k.tabled.loose c rfl).owner
  rw [State.endRun_owned owner]
  exact (k.runEnds owner e).answerWaiter fun g is => k.mine (by rwa [State.owner_runEnds] at is)

theorem State.service_answerWaiter (s : State) (c : CtxNo) : (s.answerWaiter c).engine.service = s.engine.service := by
  rw [State.engine_answerWaiter]

theorem State.service_endRun (s : State) (c : CtxNo) (e : RunEnd) : (s.endRun c e).engine.service = s.engine.service := by
  unfold State.endRun
  split
  · rw [State.service_answerWaiter, State.engine_runEnds]
  · rfl

theorem Service.undecided_of_runEnd_none {abort : Bool} (goesOn : v.runEnd abort = none) :
    v.endDecided = none ∧ abort = false := by
  unfold Service.runEnd at goesOn
  dsimp only at goesOn
  split at goesOn
  · cases goesOn
  · next undecided =>
    split at goesOn
    · cases goesOn
    · exact ⟨undecided, by simpa using goesOn⟩

/-- The end of a service whose context is loose once the service is removed. -/
theorem Kept.endService (k : Kept o F s.withoutService (some v.ctx)) (service : s.engine.service = some v)
    (resumable : v.endDecided = none → s.abortSet v = false → Resumable (s.ctx v.ctx)) : Kept o F s.endService none := by
  have moved : Kept o F s.withoutService.pointerMoved (some v.ctx) :=
    k.aside (.pointerMoved _) (by rw [State.pointerMoved_frame])
  have idle : s.withoutService.pointerMoved.engine.service = none := by rw [State.pointerMoved_frame]; rfl
  have same : s.withoutService.pointerMoved.ctx v.ctx = s.ctx v.ctx := by rw [State.pointerMoved_frame]; rfl
  cases outcome : v.runEnd (s.abortSet v) with
  | none =>
    obtain ⟨undecided, unaborted⟩ := Service.undecided_of_runEnd_none outcome
    rw [State.endService_completed service outcome]
    refine ((moved.placeCompleted (same ▸ resumable undecided unaborted)).answerWaiter fun g owner => moved.mine ?_).afterService ?_
    · rwa [State.owner_placeCompleted] at owner
    · rw [State.service_answerWaiter, State.engine_placeCompleted, idle]
  | some e =>
    have ended := moved.endRun e
    have after : (s.withoutService.pointerMoved.endRun v.ctx e).engine.service = none := by
      rw [State.service_endRun, idle]
    rw [State.endService_ended service outcome]
    dsimp only
    split
    · exact ended.afterService after
    · split
      · exact ((moved.countChoice.afterService idle).endRun e).reevaluate
      · exact ended.countChoice.afterService after

theorem Busy.endService (b : Busy o F s) : Kept o F s.endService none := by
  cases service : s.engine.service with
  | none => rw [State.endService, service]; exact b.kept
  | some v =>
    refine (b.drop service).endService service fun undecided unaborted => ⟨b.unended service, unaborted, ?_⟩
    exact (b.kept.tabled.served v service).2 undecided

/-! ## The cut (R118) -/

theorem Busy.cutService (b : Busy o F s) (owner : ∀ v, s.engine.service = some v → (s.ctx v.ctx).owner = some h) :
    Kept o F (s.cutService h) none := by
  cases service : s.engine.service with
  | none => rw [State.cutService, service]; exact b.kept
  | some v =>
    have mine := b.mine v service h (owner v service)
    have loose : Kept o F s.dropService.dropMark (some v.ctx) :=
      Kept.aside (b.drop service) (.setMark _ _) rfl
    have freed : Kept o F (s.dropService.dropMark.freeCtx h v.ctx) none := loose.freeLoose (owner v service)
    have idle : (s.dropService.dropMark.freeCtx h v.ctx).engine.service = none := by simp [State.dropService]
    simp only [State.cutService, service]
    split
    · refine Kept.afterService (freed.setWd mine (fun y _ _ d _ _ active => ?_) ?_) idle
      · have serves := (freed.tabled.placed d nofun).active.1 active
        rw [State.serving, idle] at serves
        cases serves
      · rintro y ⟨⟩ (e | e | e) <;> cases e
    · exact freed.afterService idle

theorem Busy.cutOf (b : Busy o F s) (service : s.engine.service = some v) (owner : (s.ctx v.ctx).owner = some h) :
    Kept o F (s.cutService h) none :=
  b.cutService fun u inFlight => by rw [← Option.some.inj (service.symm.trans inFlight)]; exact owner

/-! ## The loss of the grant (R95 to R101) -/

theorem Busy.pinnedAbort (b : Busy o F s) : Kept o F s.pinnedAbort none := by
  unfold State.pinnedAbort
  split
  · exact b.kept
  · next v service => exact Busy.endService (b.serve service rfl ⟨rfl, id⟩)

theorem Busy.discardPartial (b : Busy o F s) : Busy o F s.discardPartial := by
  unfold State.discardPartial
  split
  · exact b
  · next v service =>
    split
    · exact b.serve service rfl ⟨rfl, id⟩
    · exact b

/-- The cut of a service just PINNED, its abort, or its new grant. -/
theorem Busy.afterPin (b : Busy o F s) (service : s.engine.service = some u) (agrees : Agrees v u)
    (pinned : s.engine.state = .pinned) (g : GrantLoss) : Kept o F (s.afterPin v g) none := by
  have takes : ∀ t : State, t.engine = s.engine → t.engine.state = .asking → t.engine.service = none := by
    intro t same asking
    rw [same, pinned] at asking
    cases asking
  unfold State.afterPin
  split
  · exact b.kept
  · next h owner =>
    split
    · exact b.cutOf service (by rw [agrees.ctx]; exact owner)
    · split
      · split
        · exact b.pinnedAbort
        · split
          · exact b.kept.countChoice.takeGrant (takes _ rfl)
          · exact b.countChoice.pinnedAbort
      · split
        · exact b.kept.takeGrant (takes _ rfl)
        · exact b.kept

theorem Kept.settleCut (k : Kept o F s (some c)) (mine : ¬F h) (idle : s.engine.service = none) :
    Kept o F (s.settleCut h) (some c) := by
  unfold State.settleCut
  split
  · split
    · refine k.setWd mine (fun y _ _ d settled _ active => ?_) ?_
      · have serves := (k.tabled.placed d settled).active.1 active
        rw [State.serving, idle] at serves
        cases serves
      · rintro y ⟨⟩ (e | e | e) <;> cases e
    · exact k
  · exact k

/-- Step 2 of the withdrawal of the owner taken, where the loss of the grant settles its service (R118). -/
def State.cutSettled (s : State) (v : Service) : State :=
  match (s.ctx v.ctx).owner with
  | some h => s.settleCut h
  | none => s

theorem State.settleCut_withoutService (s : State) (h : HostNo) :
    (s.settleCut h).withoutService = s.withoutService.settleCut h := by
  unfold State.settleCut
  change _ = match s.wd h with | some w => _ | none => _
  cases s.wd h with
  | none => rfl
  | some w =>
    dsimp only
    split <;> rfl

theorem Busy.cutSettled (b : Busy o F s) (service : s.engine.service = some v) :
    Kept o F (s.cutSettled v).withoutService (some v.ctx) := by
  unfold State.cutSettled
  split
  · next h owner =>
    rw [State.settleCut_withoutService]
    exact (b.drop service).settleCut (b.mine v service h owner) rfl
  · exact b.drop service

@[simp] theorem State.engine_cutSettled (s : State) (v : Service) : (s.cutSettled v).engine = s.engine := by
  unfold State.cutSettled
  split <;> simp

@[simp] theorem State.ctx_cutSettled (s : State) (v : Service) (d : CtxNo) : (s.cutSettled v).ctx d = s.ctx d := by
  unfold State.cutSettled
  split <;> simp

theorem State.settleLoss_eq (s : State) :
    s.settleLoss =
      match s.discardPartial.engine.service with
      | none => s.discardPartial.leaveBus
      | some v =>
        if s.discardPartial.srcSideEffect v && !s.discardPartial.engine.buffer.isEmpty then
          (s.discardPartial.pin v).afterPin v
            (s.discardPartial.engine.losing.getD { abortFirst := true, cutFirst := false })
        else if s.discardPartial.isEnding v then (s.discardPartial.cutSettled v).endService
        else (s.discardPartial.cutSettled v).yieldService v := rfl

theorem Kept.yieldService (k : Kept o F s.withoutService (some v.ctx)) (r : Resumable (s.ctx v.ctx)) :
    Kept o F (s.yieldService v) none := by
  have loose : Kept o F s.dropService.dropMark (some v.ctx) := k.aside (.setMark _ _) rfl
  have placed := loose.placeYielded r
  have idle : (s.dropService.dropMark.placeYielded v.ctx).engine.service = none := by simp [State.dropService]
  have own : ∀ g, ((s.dropService.dropMark.placeYielded v.ctx).ctx v.ctx).owner = some g → ¬F g := fun g owner =>
    loose.mine (by rwa [State.owner_placeYielded] at owner)
  unfold State.yieldService
  dsimp only
  split
  · refine ((placed.setArmed v.ctx true).answerWaiter ?_).leaveBus ?_
    · simpa using own
    · rw [State.service_answerWaiter, State.engine_setArmed, idle]
  · refine (placed.answerWaiter own).leaveBus ?_
    rw [State.service_answerWaiter, idle]

theorem Busy.settleLoss (b : Busy o F s) : Kept o F s.settleLoss none := by
  have d := b.discardPartial
  rw [State.settleLoss_eq]
  generalize s.discardPartial = s at d ⊢
  cases service : s.engine.service with
  | none => exact d.kept.leaveBus service
  | some v =>
    have settled := d.cutSettled service
    dsimp only
    split
    · have pinned : Busy o F (s.pin v) := d.serve service rfl ⟨rfl, id⟩
      refine pinned.afterPin rfl ?_ rfl _
      exact ⟨rfl, id⟩
    · split
      · refine settled.endService (by simpa using service) fun undecided unaborted => ?_
        rw [State.ctx_cutSettled]
        exact ⟨d.unended service, by simpa [State.abortSet] using unaborted, (d.kept.tabled.served v service).2 undecided⟩
      · next goes =>
        have open' : v.endDecided = none ∧ (s.ctx v.ctx).abortPending = false := by
          simp only [State.isEnding, State.abortSet, Bool.or_eq_true, not_or, Bool.not_eq_true] at goes
          exact ⟨by simpa using goes.1.1.1, goes.1.2⟩
        refine settled.yieldService ?_
        rw [State.ctx_cutSettled]
        exact ⟨d.unended service, open'.2, (d.kept.tabled.served v service).2 open'.1⟩

theorem Busy.proceed (b : Busy o F s) : Kept o F s.proceed none := by
  unfold State.proceed
  split
  · exact b.settleLoss
  · exact b.kept.issueBeat

theorem Busy.cutAfterBeat (b : Busy o F s) (service : s.engine.service = some u) (agrees : Agrees v u) :
    Kept o F (s.cutAfterBeat v) none := by
  unfold State.cutAfterBeat
  split
  · exact b.kept
  · next h owner =>
    have cut : Kept o F (s.cutService h) none := b.cutOf service (by rw [agrees.ctx]; exact owner)
    split
    · split
      · exact cut
      · exact b.settleLoss
    · exact cut

end

end Sys2Proof.Machine
end

section
/-! SUPPORT. The beats of a service and an abort that reaches it, against what a step keeps. -/

namespace Sys2Proof.Machine

section
variable {o : State} {F : HostNo → Prop} {s t : State} {c : CtxNo} {h : HostNo} {v u : Service}

/-! ## The record of the ACTIVE context -/

/-- The record of an ACTIVE context is written, in nothing that another table repeats. -/
theorem Kept.setActive (k : Kept o F s none) (owner : (s.ctx c).owner = some h) (mine : ¬F h) (active : (s.ctx c).state = .active)
    {x : Ctx} (state : x.state = .active)
    (same : x.owner = (s.ctx c).owner ∧ x.trigger = (s.ctx c).trigger ∧ x.usedWindows = (s.ctx c).usedWindows)
    (record : CtxSound x)
    (served : ∀ v, s.engine.service = some v → v.ctx = c → ServiceMatches x v ∧ (v.endDecided = none → x.residual ≠ 0)) :
    Kept o F (s.setCtx c x) none := by
  obtain ⟨owns, trigger, windows⟩ := same
  have p := k.tabled.placed c nofun
  have own : ∀ g, (s.ctx c).owner = some g → g = h := fun g e => Option.some.inj (e.symm.trans owner)
  refine ⟨k.tabled.move (h := h) (Moved.setCtx h (by simp [state]) (by simp [state]) fun u => ?_) mine nofun (fun _ _ => .rfl)
    (p.off_ready (by simp [active])) (p.off_held (by simp [active])) own (fun g e => own g (owns ▸ e)) record
    ⟨fun _ => p.active.1 active, fun _ => state⟩ (fun y withdraws past => absurd active (p.cut h y withdraws past owner))
    (fun y withdraws past e => p.gone h y withdraws past (owns ▸ e)) (fun sound n => ?_) served, k.bounded⟩
  · rw [Ctx.share, Ctx.share, windows, state, active]
  · have lines := p.lines sound n
    rw [active] at lines
    rw [trigger, state]
    exact lines

theorem Busy.owner (b : Busy o F s) (service : s.engine.service = some v) : ∃ h, (s.ctx v.ctx).owner = some h ∧ ¬F h := by
  obtain ⟨h, owner, mine⟩ := ((b.drop service).tabled.loose v.ctx rfl).owner
  exact ⟨h, owner, mine⟩

/-- The counts of a run after a commit of one of its units (R74). -/
theorem Ctx.commit_sound {x : Ctx} (record : CtxSound x) (active : x.state = .active) (left : x.residual ≠ 0) :
    CtxSound x.commit where
  owned := record.owned
  pendingEnd := record.pendingEnd
  abortPending := record.abortPending
  suspendPending := record.suspendPending
  counts := by
    have sum := record.counts.sum (by rw [active]; rfl)
    refine ⟨fun _ => ?_, fun waits => ?_, record.counts.counted⟩
    · change (x.moved + 1).toNat + (x.residual - 1).toNat = x.count.toNat
      bv_omega
    · change x.state = .ready ∨ x.state = .suspended at waits
      simp [active] at waits

theorem ServiceMatches.commit {x : Ctx} (m : ServiceMatches x v)
    (agrees : Agrees { v with unitsCommitted := v.unitsCommitted + 1, endDecided := u.endDecided } u) :
    ServiceMatches x.commit u := by
  have past : ServiceMatches x.commit { v with unitsCommitted := v.unitsCommitted + 1, endDecided := u.endDecided } := by
    refine ⟨m.kind, m.unit, m.trigger, m.srcWin, m.srcStep, m.dstWin, m.dstStep, ?_⟩
    have before := m.left
    change v.length ≤ v.unitsCommitted + 1 + (x.residual - 1).toNat
    bv_omega
  exact agrees.matches past

/-- A unit is committed: the context's counts and the service record move on together (R74). -/
theorem Busy.commit (b : Busy o F s) {y : Service} (service : s.engine.service = some y) (same : Agrees y v)
    (left : (s.ctx v.ctx).residual ≠ 0) {e : Engine} (after : e.service = some u)
    (agrees : Agrees { v with unitsCommitted := v.unitsCommitted + 1, endDecided := u.endDecided } u)
    (decided : u.endDecided = none → (s.ctx v.ctx).commit.residual ≠ 0) :
    Busy o F ((s.setCtx v.ctx (s.ctx v.ctx).commit).setEngine e) := by
  have active := b.active service
  obtain ⟨h, owner, mine⟩ := b.owner service
  have isMatch := (b.kept.tabled.served y service).1
  rw [← same.ctx] at active owner isMatch
  have matched : ServiceMatches (s.ctx v.ctx) v := same.matches isMatch
  have inCtx : u.ctx = v.ctx := agrees.ctx
  have serving : (s.setEngine e).serving = s.serving := by
    rw [Busy.serving service, ← same.ctx, ← inCtx]
    exact Busy.serving (s := s.setEngine e) after
  have ahead : Kept o F (s.setEngine e) none := by
    refine b.kept.quiet (.setEngine s e) (fun d _ => by rw [serving]) nofun fun z inFlight => ?_
    obtain rfl := Option.some.inj (after.symm.trans inFlight)
    rw [State.ctx_setEngine, inCtx]
    refine ⟨agrees.matches ⟨matched.kind, matched.unit, matched.trigger, matched.srcWin, matched.srcStep, matched.dstWin,
      matched.dstStep, ?_⟩, fun _ => left⟩
    have before := matched.left
    change v.length ≤ v.unitsCommitted + 1 + (s.ctx v.ctx).residual.toNat
    omega
  have kept : Kept o F ((s.setEngine e).setCtx v.ctx (s.ctx v.ctx).commit) none := by
    refine ahead.setActive owner mine active active ⟨rfl, rfl, rfl⟩
      (Ctx.commit_sound (b.kept.tabled.placed v.ctx nofun).record active left) fun z inFlight _ => ?_
    obtain rfl := Option.some.inj (after.symm.trans inFlight)
    exact ⟨matched.commit agrees, decided⟩
  refine ⟨kept, fun z inFlight g owned => ?_⟩
  obtain rfl := Option.some.inj (after.symm.trans inFlight)
  rw [inCtx] at owned
  change (((s.setCtx v.ctx (s.ctx v.ctx).commit)).ctx v.ctx).owner = some g at owned
  rw [State.ctx_setCtx_self] at owned
  obtain rfl : h = g := Option.some.inj (owner.symm.trans owned)
  exact mine

theorem runEndTest_none {residual : Half} {matched marked : Bool} (undecided : runEndTest residual matched marked = none) :
    residual ≠ 0 := by
  rintro rfl
  simp [runEndTest] at undecided

/-! ## Read beats -/

theorem Busy.stopReading (b : Busy o F s) : Kept o F s.stopReading none := by
  unfold State.stopReading
  split
  · exact b.kept
  · next v service =>
    split
    · exact Busy.proceed (b.serve service rfl ⟨rfl, id⟩)
    · exact b.endService

theorem Busy.readHalf (b : Busy o F s) (service : s.engine.service = some u) (agrees : Agrees u v) (byte : Byte) :
    Kept o F (s.readHalf v byte) none := by
  have half : Busy o F (s.setEngine { s.engine with partialByte := some byte, service := some { v with half := true } }) :=
    b.serve service rfl (agrees.trans ⟨rfl, id⟩)
  unfold State.readHalf
  dsimp only
  split
  · split
    · exact half.kept.issueBeat
    · exact half.settleLoss
  · split
    · exact half.discardPartial.stopReading
    · exact half.kept.issueBeat

theorem Busy.readMove (b : Busy o F s) (service : s.engine.service = some u) (agrees : Agrees u v) (bytes : List Byte) :
    Kept o F (s.readMove v bytes) none := by
  unfold State.readMove
  dsimp only
  split
  · exact Busy.proceed (b.serve service rfl (agrees.trans ⟨rfl, id⟩))
  · split
    · exact Busy.proceed (b.serve service rfl (agrees.trans ⟨rfl, id⟩))
    · split
      · exact Busy.proceed (b.serve service rfl (agrees.trans ⟨rfl, id⟩))
      · exact Busy.proceed (b.serve service rfl (agrees.trans ⟨rfl, id⟩))

theorem Busy.readCheck (b : Busy o F s) (service : s.engine.service = some u) (agrees : Agrees u v)
    (left : (s.ctx v.ctx).residual ≠ 0) (bytes : List Byte) : Kept o F (s.readCheck v bytes) none := by
  have committed := b.commit service agrees left (e := { s.engine with
      partialByte := none, service := some { v with
        half := false, termMark := false, unitsRead := v.unitsRead + 1, unitsCommitted := v.unitsCommitted + 1
        readAddr := v.srcStep.next v.unit v.readAddr
        endDecided := runEndTest (s.ctx v.ctx).commit.residual (unitMatches (s.ctx v.ctx) bytes) v.termMark } })
    rfl ⟨rfl, id⟩ runEndTest_none
  unfold State.readCheck
  dsimp only
  split
  · split
    · exact committed.endService
    · exact committed.proceed
  · split
    · exact committed.endService
    · exact committed.proceed

theorem Busy.readDiscarded (b : Busy o F s) (service : s.engine.service = some u) (agrees : Agrees u v) (unitDone : Bool) :
    Kept o F (s.readDiscarded v unitDone) none := by
  have goesOn : ∀ y, Agrees v y →
      Kept o F (if y.burst = 0 then (s.setService y).endService else (s.setService y).proceed) none := by
    intro y same
    have discarded : Busy o F (s.setService y) := b.serve service rfl (agrees.trans same)
    split
    · exact discarded.endService
    · exact discarded.proceed
  unfold State.readDiscarded
  cases unitDone
  · exact goesOn { v with half := true } ⟨rfl, id⟩
  · exact goesOn { v with half := false, readAddr := v.srcStep.next v.unit v.readAddr } ⟨rfl, id⟩

/-- A read beat completes. A CHECK with no end decided commits the unit, so units are left by the service record (R69). -/
theorem Busy.readDone (b : Busy o F s) (service : s.engine.service = some u) (agrees : Agrees u v) (beat : Beat) (width : Width)
    (ld : Half) : Kept o F (s.readDone v beat width ld) none := by
  unfold State.readDone
  dsimp only
  split
  · exact b.readDiscarded service agrees _
  · next taken =>
    split
    · exact b.readHalf service agrees _
    · split
      · next check =>
        have undecided : v.endDecided = none := by simpa [check] using taken
        have left := (b.kept.tabled.served u service).2 (agrees.undecided undecided)
        rw [← agrees.ctx] at left
        exact b.readCheck service agrees left _
      · exact b.readMove service agrees _

/-! ## Write beats -/

theorem Busy.writeHalf (b : Busy o F s) (service : s.engine.service = some u) (agrees : Agrees u v) :
    Kept o F (s.writeHalf v) none :=
  Busy.proceed (b.serve service rfl (agrees.trans ⟨rfl, id⟩))

/-- The service record after a unit has been written, with the run end `found` at its commit (R75). -/
def Service.unitWritten (v : Service) (found : Option Cause) : Service :=
  { v with
    half := false, termMark := false, unitsCommitted := v.unitsCommitted + 1
    endDecided := match found with
      | some k => some k
      | none => v.endDecided }

theorem Busy.setEngState (b : Busy o F s) (e : EngState) : Busy o F (s.setEngState e) := b.setEngine rfl

/-- What follows in `t` the commit of the unit that the service `v` has written in `s` (R74, R75). -/
def State.afterUnit (s t : State) (v : Service) (found : Option Cause) : State :=
  match v.kind with
  | .move =>
    match found with
    | some .count => t.endService
    | some _ =>
      if s.engine.buffer.tail.isEmpty || !s.srcSideEffect v then t.endService else (t.setEngState .draining).proceed
    | none =>
      if s.engine.buffer.tail.isEmpty then t.endService
      else if s.engine.state = .writing && (v.unitWritten found).stopDue .dest then
        if s.srcSideEffect v then (t.setEngState .draining).proceed else t.endService
      else t.proceed
  | _ =>
    if found.isSome || v.length ≤ v.unitsCommitted + 1 || s.abortSet v || (v.unitWritten found).stopDue .dest then t.endService
    else t.proceed

theorem State.writeUnitDone_eq (s : State) (v : Service) :
    ∃ marked, s.writeUnitDone v =
      let found := runEndTest (s.ctx v.ctx).commit.residual false marked
      s.afterUnit ((s.setCtx v.ctx (s.ctx v.ctx).commit).setEngine
        { s.engine with buffer := s.engine.buffer.tail, service := some (v.unitWritten found) }) v found :=
  ⟨_, rfl⟩

theorem Busy.afterUnit (b : Busy o F t) (s : State) (v : Service) (found : Option Cause) :
    Kept o F (s.afterUnit t v found) none := by
  have drained := (b.setEngState .draining).proceed
  unfold State.afterUnit
  split
  · split
    · exact b.endService
    · split
      · exact b.endService
      · exact drained
    · split
      · exact b.endService
      · split
        · split
          · exact drained
          · exact b.endService
        · exact b.proceed
  · split
    · exact b.endService
    · exact b.proceed

theorem Busy.writeUnitDone (b : Busy o F s) (service : s.engine.service = some u) (agrees : Agrees u v)
    (left : (s.ctx v.ctx).residual ≠ 0) : Kept o F (s.writeUnitDone v) none := by
  obtain ⟨marked, written⟩ := s.writeUnitDone_eq v
  rw [written]
  dsimp only
  generalize test : runEndTest (s.ctx v.ctx).commit.residual false marked = found
  refine Busy.afterUnit (b.commit service agrees left rfl ⟨rfl, id⟩ fun undecided => ?_) s v found
  cases found with
  | none => exact runEndTest_none test
  | some k => cases undecided

theorem Busy.writeDone (b : Busy o F s) (service : s.engine.service = some u) (agrees : Agrees u v)
    (left : (s.ctx v.ctx).residual ≠ 0) (beat : Beat) : Kept o F (s.writeDone v beat) none := by
  unfold State.writeDone
  split
  · exact b.writeUnitDone service agrees left
  · exact b.writeHalf service agrees

/-! ## Answers and failures -/

theorem Service.record_agrees (v : Service) (k : Cause) (p : Phase) (a : Addr) : Agrees v (v.record k p a) := by
  unfold Service.record
  split
  · exact .refl v
  · exact ⟨rfl, id⟩

theorem Busy.failBeat (b : Busy o F s) (k : Cause) : Kept o F (s.failBeat k) none := by
  unfold State.failBeat
  split
  · next beat v inFlight service =>
    dsimp only
    split
    · exact Busy.cutAfterBeat (b.serve service rfl ⟨rfl, id⟩) rfl (.refl _)
    · have recorded := fun p => ((⟨rfl, id⟩ : Agrees v { v with burst := 0 }).trans
        (Service.record_agrees { v with burst := 0 } k p beat.addr))
      split
      · split
        · exact Busy.endService (b.serve service rfl ⟨rfl, id⟩)
        · exact (b.serve service rfl (recorded .read) : Busy o F (s.setEngine _)).discardPartial.stopReading
      · exact Busy.endService (b.serve service rfl ((recorded .write).trans ⟨rfl, id⟩))
      · exact Busy.endService (b.serve service rfl ((recorded .write).trans ⟨rfl, id⟩))
  · exact b.kept

theorem Window.refs_learn (x : Window) (a : Width) : (x.learn a).refs = x.refs := by
  unfold Window.learn
  split <;> rfl

theorem Busy.noteAnswer (b : Busy o F s) (service : s.engine.service = some v) (beat : Beat) (a : Answer) :
    Busy o F (s.noteAnswer v beat a) := by
  unfold State.noteAnswer
  dsimp only
  generalize written : (if a.single && beat.inBurst then _ else _ : Window) = x
  have refs : x.refs = (s.window (v.beatWindow beat)).refs := by
    rw [← written]
    split
    · exact Window.refs_learn _ _
    · exact Window.refs_learn _ _
  have noted : Busy o F (s.setWindow (v.beatWindow beat) x) := ⟨b.kept.aside (.setWindow _ _ refs) rfl, b.mine⟩
  exact noted.serve service rfl ⟨rfl, id⟩

/-- An answer to the beat in flight. A write beat carries a unit of the run, so one is left to commit. -/
theorem Busy.answerBeat (b : Busy o F s)
    (writes : ∀ beat v, s.engine.beat = some beat → s.engine.service = some v → beat.write = true → (s.ctx v.ctx).residual ≠ 0)
    (a : Answer) (ld : Half) (term : Bool) : Kept o F (s.answerBeat a ld term) none := by
  unfold State.answerBeat
  split
  · next beat v inFlight service =>
    dsimp only
    split
    · exact b.failBeat _
    · have noted := b.noteAnswer service beat a
      split
      · exact noted.cutAfterBeat rfl (.refl _)
      · split
        · next write =>
          refine noted.writeDone rfl ?_ ?_ beat
          · exact ⟨rfl, id⟩
          · exact writes beat v inFlight service write
        · refine noted.readDone rfl ?_ beat _ _
          exact ⟨rfl, id⟩
  · exact b.kept

/-- An answer or an expiry that is taken has its effect; one that is late has none (R106). -/
theorem Busy.onBeat (b : Busy o F s) (r : Rival) {f : State → State}
    (taken : ∀ t : State, Busy o F t → (∀ d, t.ctx d = s.ctx d) → t.engine.beat = s.engine.beat →
      t.engine.service = s.engine.service → Kept o F (f t) none) : Kept o F (s.onBeat r f) none := by
  unfold State.onBeat
  split
  · dsimp only
    split
    · exact taken _ (b.setEngine rfl) (fun _ => rfl) rfl rfl
    · split
      · exact b.kept.countChoice.setEngine rfl
      · exact taken _ (b.countChoice.setEngine rfl) (fun _ => rfl) rfl rfl
  · exact b.kept.pastLate r

/-! ## Abort of the ACTIVE context -/

theorem Busy.abortReaches (b : Busy o F s) : Kept o F s.abortReaches none := by
  unfold State.abortReaches
  split
  · exact b.kept
  · next v service =>
    split
    · split
      · exact b.discardPartial.stopReading
      · exact b.kept.serve service rfl ⟨rfl, id⟩
    · split
      · exact b.kept.setEngine rfl
      · split
        · exact b.endService
        · exact b.kept
    · exact b.pinnedAbort
    · exact b.kept

end

end Sys2Proof.Machine
end

section
/-! SUPPORT. The commands of the Context Table, the Window Table, the Scheduler and the Completion Unit, against what a step
keeps. -/

namespace Sys2Proof.Machine

/-! ## The beginning of a step -/

/-- In a sound state a service with no end decided, and every service past READING, has a unit of its run left (R69). -/
theorem CoreSound.left {s : State} {v : Service} (core : CoreSound s) (service : s.engine.service = some v)
    (goesOn : v.endDecided = none ∨ s.engine.state ≠ .reading) : (s.ctx v.ctx).residual ≠ 0 := by
  have sound := core.engine.service v service
  have matched := (core.service v service).left
  have room : v.unitsCommitted < v.length := by
    cases kind : v.kind with
    | move =>
      obtain ⟨buffered, within⟩ := sound.buffered kind
      by_cases reading : s.engine.state = .reading
      · have reads := sound.reads reading kind
        omega
      · have holds := List.length_pos_of_ne_nil (sound.moves reading kind)
        omega
    | fill => exact (sound.fills kind).1
    | check =>
      have reading : s.engine.state = .reading := Classical.byContradiction fun e => sound.writing e kind
      rcases goesOn with undecided | past
      · exact (sound.checks reading kind undecided).2
      · exact absurd reading past
  intro none
  rw [none] at matched
  change v.length ≤ v.unitsCommitted + 0 at matched
  omega

theorem CoreSound.kept {o : State} (core : CoreSound o) (F : HostNo → Prop) : Kept o F o none where
  tabled := by
    have table := core.table
    refine ⟨fun c _ => ?_, nofun, table.readyOnce, table.heldOnce, fun _ refs => refs,
      fun v service => ⟨core.service v service, fun undecided => core.left service (.inl undecided)⟩, fun h _ => .refl o h⟩
    exact ⟨⟨table.owned c, table.pendingEnd c, table.abortPending c, table.suspendPending c, core.counts c⟩,
      fun h => table.ready h c, fun h => table.held h c, table.active c, fun h w => table.cut h w c, fun h w => table.gone h w c,
      fun sound n => sound n c⟩
  bounded h := ⟨core.table.heldFull h, core.queues h⟩

section
variable {o : State} {F : HostNo → Prop} {s t : State} {c : CtxNo} {h : HostNo}

/-! ## Taking a command -/

/-- A command is with its block only while no withdrawal of its host has begun (R153, R163). -/
theorem PortSound.step_begin {q : Passed} {y : Withdrawal} (sound : PortSound (s.port h) (s.wd h)) (taken : s.toTake h = some q)
    (withdraws : s.wd h = some y) : y.step = .begin := by
  have passed : (s.port h).passed.isSome = true := by
    unfold State.toTake at taken
    split at taken
    · next is => rw [is]; rfl
    · cases taken
  rcases sound.passed passed with executing | waits
  · rcases sound.withdrawn (by rw [withdraws]; rfl) with e | e <;> rw [executing] at e <;> cases e
  · simpa [Withdrawal.notBegun, withdraws] using waits

theorem Kept.take (k : Kept o F s none) (mine : ¬F h) (sound : s.portsSound) {cmd : Cmd}
    {run : List Byte → State → State × Reply}
    (runs : ∀ ps, (∀ y, s.wd h = some y → y.step = .begin) → Kept o F (run ps s).1 none) : Kept o F (s.take h cmd run) none := by
  unfold State.take
  split
  · next q taken =>
    split
    · exact (runs q.params fun y withdraws => (sound h).step_begin taken withdraws).reply mine _
    · exact k
  · exact k

/-- A command that names a context changes it only where the tests of R8 pass. -/
theorem Kept.onCtx (k : Kept o F s none) {ps : List Byte} {accept : CtxState → Bool} {run : CtxNo → State × Reply}
    (runs : ∀ c, (s.ctx c).owner = some h → accept (s.ctx c).state = true → Kept o F (run c).1 none) :
    Kept o F (s.onCtx h ps accept run).1 none := by
  unfold State.onCtx State.ctxTest
  cases ctxOf (param ps 0) with
  | none => exact k
  | some c =>
    dsimp only
    by_cases foreign : (s.ctx c).state = .free ∨ (s.ctx c).owner ≠ some h
    · rw [if_pos foreign]
      exact k
    · rw [if_neg foreign]
      have owner : (s.ctx c).owner = some h := Classical.byContradiction fun e => foreign (.inr e)
      cases accepted : accept (s.ctx c).state with
      | true => exact runs c owner accepted
      | false => exact k

/-! ## Claiming, releasing and programming (R9 to R15) -/

theorem Kept.unended (k : Kept o F s none) (unheld : (s.ctx c).state ≠ .held) : (s.ctx c).pendingEnd = none := by
  cases e : (s.ctx c).pendingEnd with
  | none => rfl
  | some _ => exact absurd ((k.tabled.placed c nofun).record.pendingEnd.1 (by rw [e]; rfl)) unheld

theorem Kept.unaborted (k : Kept o F s none) (idle : (s.ctx c).state ≠ .active) : (s.ctx c).abortPending = false :=
  Bool.eq_false_iff.2 fun e => idle ((k.tabled.placed c nofun).record.abortPending e)

theorem Kept.unsuspended (k : Kept o F s none) (idle : (s.ctx c).state ≠ .active) (unheld : (s.ctx c).state ≠ .held) :
    (s.ctx c).suspendPending = false :=
  Bool.eq_false_iff.2 fun e => ((k.tabled.placed c nofun).record.suspendPending e).elim idle unheld

theorem Kept.claim (k : Kept o F s none) (mine : ¬F h) (begins : ∀ y, s.wd h = some y → y.step = .begin) (ps : List Byte) :
    Kept o F (State.claim h ps s).1 none := by
  have claimed : ∀ c, (s.ctx c).state = .free → Kept o F (s.takeClaim h c).1 none := by
    intro c free
    have unowned := (k.tabled.placed c nofun).record.owned.1 free
    refine k.setUnstarted mine (by rw [free]; rfl) rfl (fun g e => by simp [unowned] at e) (fun g e => (Option.some.inj e).symm)
      ⟨⟨nofun, nofun⟩, ⟨nofun, nofun⟩, nofun, nofun, ⟨nofun, ?_, ?_⟩⟩ fun y withdraws past => ?_
    · rintro (e | e) <;> cases e
    · rintro (e | e) <;> cases e
    · simp [begins y withdraws] at past
  unfold State.claim
  dsimp only
  split
  · split
    · next c found => exact claimed c (by simpa using List.find?_some found)
    · exact k
  · split
    · exact k
    · split
      · next c _ free => exact claimed c free
      · exact k

theorem Kept.release (k : Kept o F s none) (mine : ¬F h) (ps : List Byte) : Kept o F (State.release h ps s).1 none := by
  refine k.onCtx fun c owner accepted => ?_
  have claimed : (s.ctx c).state = .claimed := by simpa [onlyClaimed] using accepted
  exact k.setUnstarted mine (by rw [claimed]; rfl) rfl (fun g e => Option.some.inj (e.symm.trans owner)) nofun
    (s.ctx c).freed_sound fun _ _ _ => nofun

/-- A set command writes the parts of a CLAIMED context, and a count only if it is not 0 (section 1.6). -/
theorem Kept.setPart (k : Kept o F s none) (mine : ¬F h) (owner : (s.ctx c).owner = some h)
    (accepted : onlyClaimed (s.ctx c).state = true) {x : Option Ctx}
    (sets : ∀ y, x = some y → (y.state = (s.ctx c).state ∧ y.owner = (s.ctx c).owner ∧ y.abortPending = (s.ctx c).abortPending ∧
      y.suspendPending = (s.ctx c).suspendPending ∧ y.pendingEnd = (s.ctx c).pendingEnd) ∧
      (y.parts.count = true → y.count ≠ 0)) : Kept o F (s.setPart c x).1 none := by
  cases x with
  | none => exact k
  | some y =>
    obtain ⟨⟨state, owns, abort, suspend, pending⟩, counted⟩ := sets y rfl
    have claimed : (s.ctx c).state = .claimed := by simpa [onlyClaimed] using accepted
    have p := k.tabled.placed c nofun
    have own : ∀ g, (s.ctx c).owner = some g → g = h := fun g e => Option.some.inj (e.symm.trans owner)
    refine k.setUnstarted mine (by rw [claimed]; rfl) (by rw [state, claimed]; rfl) own (fun g e => own g (owns ▸ e))
      ⟨by rw [state, owns]; exact p.record.owned, by rw [state, pending]; exact p.record.pendingEnd,
        by rw [state, abort]; exact p.record.abortPending, by rw [state, suspend]; exact p.record.suspendPending,
        ⟨fun e => ?_, fun e => ?_, fun e => ?_⟩⟩ (by rw [owns]; exact p.gone h)
    · rw [state, claimed] at e
      cases e
    · rw [state, claimed] at e
      rcases e with e | e <;> cases e
    · rw [state, claimed] at e
      exact counted (e.resolve_left nofun)

theorem Kept.counted (k : Kept o F s none) (c : CtxNo) (present : (s.ctx c).parts.count = true) : (s.ctx c).count ≠ 0 :=
  (k.tabled.placed c nofun).record.counts.counted (.inr present)

theorem Kept.setSource (k : Kept o F s none) (mine : ¬F h) (ps : List Byte) : Kept o F (State.setSource h ps s).1 none := by
  refine k.onCtx fun c owner accepted => k.setPart mine owner accepted fun y set => ?_
  split at set
  · cases set
    exact ⟨⟨rfl, rfl, rfl, rfl, rfl⟩, k.counted c⟩
  · cases set

theorem Kept.setDest (k : Kept o F s none) (mine : ¬F h) (ps : List Byte) : Kept o F (State.setDest h ps s).1 none := by
  refine k.onCtx fun c owner accepted => k.setPart mine owner accepted fun y set => ?_
  split at set
  · cases set
    exact ⟨⟨rfl, rfl, rfl, rfl, rfl⟩, k.counted c⟩
  · cases set

theorem Kept.setCount (k : Kept o F s none) (mine : ¬F h) (ps : List Byte) : Kept o F (State.setCount h ps s).1 none := by
  refine k.onCtx fun c owner accepted => k.setPart mine owner accepted fun y set => ?_
  split at set
  · cases set
  · next some =>
    cases set
    exact ⟨⟨rfl, rfl, rfl, rfl, rfl⟩, fun _ => some⟩

theorem Kept.setMode (k : Kept o F s none) (mine : ¬F h) (ps : List Byte) : Kept o F (State.setMode h ps s).1 none := by
  refine k.onCtx fun c owner accepted => k.setPart mine owner accepted fun y set => ?_
  split at set
  · cases set
    exact ⟨⟨rfl, rfl, rfl, rfl, rfl⟩, k.counted c⟩
  · cases set

theorem Kept.setPattern (k : Kept o F s none) (mine : ¬F h) (ps : List Byte) : Kept o F (State.setPattern h ps s).1 none := by
  refine k.onCtx fun c owner accepted => k.setPart mine owner accepted fun y set => ?_
  cases set
  exact ⟨⟨rfl, rfl, rfl, rfl, rfl⟩, k.counted c⟩

theorem Kept.setLink (k : Kept o F s none) (mine : ¬F h) (ps : List Byte) : Kept o F (State.setLink h ps s).1 none := by
  refine k.onCtx fun c owner accepted => ?_
  have sets : ∀ y : Ctx, y = { s.ctx c with parts := y.parts, link := y.link } → y.parts.count = (s.ctx c).parts.count →
      Kept o F (s.setPart c (some y)).1 none := fun y same parts => by
    refine k.setPart mine owner accepted fun z set => ?_
    cases set
    rw [same]
    exact ⟨⟨rfl, rfl, rfl, rfl, rfl⟩, fun e => k.counted c (parts.symm.trans e)⟩
  dsimp only
  split
  · exact sets _ rfl rfl
  · split
    · exact k
    · split
      · exact k
      · split
        · exact k
        · exact sets _ rfl rfl

/-! ## Starting, suspending, resuming, aborting (R16 to R21) -/

theorem Kept.start (k : Kept o F s none) (mine : ¬F h) (ps : List Byte) : Kept o F (State.start h ps s).1 none := by
  refine k.onCtx fun c owner _ => ?_
  split
  · exact k
  · next checked => exact Kept.reevaluate ⟨k.tabled.takeStart owner mine checked, fun g => by simpa using k.bounded g⟩

/-- A READY or SUSPENDED context comes off its ready list. -/
theorem Kept.leave (k : Kept o F s none) (mine : ¬F h) (owner : (s.ctx c).owner = some h)
    (waits : (s.ctx c).state = .ready ∨ (s.ctx c).state = .suspended) : Kept o F (s.leaveReady h c) (some c) := by
  have p := k.tabled.placed c nofun
  have unheld : (s.ctx c).state ≠ .held := by rcases waits with e | e <;> simp [e]
  have idle : (s.ctx c).state ≠ .active := by rcases waits with e | e <;> simp [e]
  have started : (s.ctx c).state.started = true := by rcases waits with e | e <;> rw [e] <;> rfl
  have off : s.offLists h c = s.leaveReady h c :=
    State.setCq_same (s := s.leaveReady h c) (by rw [List.erase_of_not_mem (p.off_held unheld h)]; rfl)
  refine ⟨?_, k.bounded⟩
  rw [← off]
  exact k.tabled.takeOff (TakenOff.offLists p owner) owner mine started idle

/-- A waiting context may go on. -/
theorem Kept.resumable (k : Kept o F s none) (waits : (s.ctx c).state = .ready ∨ (s.ctx c).state = .suspended) :
    Resumable (s.ctx c) where
  unended := k.unended (by rcases waits with e | e <;> simp [e])
  unaborted := k.unaborted (by rcases waits with e | e <;> simp [e])
  left := (k.tabled.placed c nofun).record.counts.waiting waits

theorem Kept.suspend (k : Kept o F s none) (mine : ¬F h) (ps : List Byte) : Kept o F (State.suspend h ps s).1 none := by
  refine k.onCtx fun c owner accepted => ?_
  have p := k.tabled.placed c nofun
  dsimp only
  split
  · next active =>
    refine k.setActive owner mine active active ⟨rfl, rfl, rfl⟩
      ⟨p.record.owned, p.record.pendingEnd, p.record.abortPending, fun _ => .inl active, p.record.counts.sum,
        p.record.counts.waiting, p.record.counts.counted⟩ fun v service same => ?_
    obtain ⟨isMatch, left⟩ := k.tabled.served v service
    rw [same] at isMatch left
    exact ⟨isMatch.recast rfl rfl rfl rfl rfl rfl rfl rfl, left⟩
  · next idle =>
    have ready : (s.ctx c).state = .ready := by simpa [idle] using accepted
    have off := k.leave mine owner (.inl ready)
    have clear := k.unsuspended idle (by simp [ready])
    have same : { s.ctx c with state := .suspended } = { s.ctx c with state := .suspended, suspendPending := false } := by
      rw [← clear]
    have record := (off.tabled.loose c rfl).suspended_sound (k.resumable (.inl ready))
    rw [State.ctx_leaveReady, ← same] at record
    exact Kept.reevaluate ⟨off.tabled.settleSuspended owner rfl ⟨rfl, rfl, rfl⟩ record, off.bounded⟩

theorem Kept.resume (k : Kept o F s none) (mine : ¬F h) (ps : List Byte) : Kept o F (State.resume h ps s).1 none := by
  refine k.onCtx fun c owner accepted => ?_
  have suspended : (s.ctx c).state = .suspended := by simpa using accepted
  have p := k.tabled.placed c nofun
  have off := k.leave mine owner (.inr suspended)
  rw [State.leaveReady, State.setReady_same (List.erase_of_not_mem (p.off_ready (by simp [suspended]) h))] at off
  have record := (off.tabled.loose c rfl).ready_sound (k.resumable (.inr suspended))
    (k.unsuspended (by simp [suspended]) (by simp [suspended]))
  exact Kept.reevaluate ⟨off.tabled.settleReady owner rfl (perm_tail _ _) ⟨rfl, rfl, rfl⟩ record, off.bounded⟩

/-- The context in service is of the host whose ACTIVE context it is. -/
theorem Kept.busy (k : Kept o F s none) (mine : ¬F h) (owner : (s.ctx c).owner = some h) (active : (s.ctx c).state = .active) :
    Busy o F s := by
  refine ⟨k, fun v service g owned => ?_⟩
  have serving := (k.tabled.placed c nofun).active.1 active
  rw [Busy.serving service] at serving
  rw [Option.some.inj serving, owner] at owned
  exact Option.some.inj owned ▸ mine

theorem Kept.abort (k : Kept o F s none) (mine : ¬F h) (ps : List Byte) : Kept o F (State.abort h ps s).1 none := by
  refine k.onCtx fun c owner accepted => ?_
  have p := k.tabled.placed c nofun
  dsimp only
  split
  · next active =>
    have marked : Kept o F (s.setCtx c { s.ctx c with abortPending := true }) none := by
      refine k.setActive owner mine active active ⟨rfl, rfl, rfl⟩
        ⟨p.record.owned, p.record.pendingEnd, fun _ => active, p.record.suspendPending, p.record.counts.sum,
          p.record.counts.waiting, p.record.counts.counted⟩ fun v service same => ?_
      obtain ⟨isMatch, left⟩ := k.tabled.served v service
      rw [same] at isMatch left
      exact ⟨isMatch.recast rfl rfl rfl rfl rfl rfl rfl rfl, left⟩
    exact (marked.busy (c := c) mine (by simpa using owner) (by simpa using active)).abortReaches
  · next idle =>
    have waits : (s.ctx c).state = .ready ∨ (s.ctx c).state = .suspended := by simpa [idle] using accepted
    exact ((k.leave mine owner waits).runEnds owner abortEnd).reevaluate

theorem Kept.query (k : Kept o F s none) (ps : List Byte) : Kept o F (State.query h ps s).1 none := k.onCtx fun _ _ _ => k

/-! ## The Window Table (R31 to R35) -/

/-- A window is written with the reference count it has in a state whose window records are sound. -/
theorem Kept.setWindow (k : Kept o F s none) {u : WinNo} {x : Window} (refs : o.windowsSound → x.refs = (s.window u).refs) :
    Kept o F (s.setWindow u x) none := by
  have quiet : Quiet s (s.setWindow u { x with refs := (s.window u).refs }) := .setWindow s u rfl
  have held := k.aside quiet rfl
  have same : ∀ c, Same (s.setWindow u { x with refs := (s.window u).refs }) (s.setWindow u x) c :=
    fun _ => ⟨rfl, fun _ => .rfl, fun _ => .rfl, fun _ => .rfl, .rfl⟩
  refine ⟨⟨fun c settled => (held.tabled.placed c settled).same (same c) fun _ => rfl, nofun, k.tabled.readyOnce,
    k.tabled.heldOnce, fun ws rs => ?_, k.tabled.served, fun g untouched => ?_⟩, k.bounded⟩
  · exact State.refsSound_quiet (k.tabled.refs ws rs) (fun _ => rfl) (Quiet.setWindow s u (refs ws)).refs
  · have a := k.tabled.apart g untouched
    exact ⟨a.port, a.cq, a.wd, a.weight, a.mine, a.others⟩

theorem State.openTarget_closed {s : State} {b : Byte} {u : WinNo} (target : s.openTarget b = .ok u) :
    (s.window u).state = .closed := by
  unfold State.openTarget at target
  split at target
  · split at target
    · next found =>
      cases target
      simpa using List.find?_some found
    · cases target
  · split at target
    · split at target
      · next closed =>
        cases target
        exact closed
      · cases target
    · cases target

/-- OPW takes a CLOSED window, which has no references in a sound state (R29). -/
theorem Kept.openWindow (k : Kept s F s none) (ps : List Byte) : Kept s F (State.openWindow h ps s).1 none := by
  unfold State.openWindow
  dsimp only
  split
  · exact k
  · split
    · exact k
    · split
      · split
        · next u target => exact k.setWindow fun sound => ((sound u).1 (State.openTarget_closed target)).2.2.symm
        · exact k
      · exact k

theorem Kept.closeWindow (k : Kept o F s none) (ps : List Byte) : Kept o F (State.closeWindow h ps s).1 none := by
  unfold State.closeWindow
  split
  · exact k
  · dsimp only
    split
    · exact k
    · split
      · exact k
      · split
        · exact k
        · exact k.setWindow fun _ => rfl

theorem Kept.queryWindow (k : Kept o F s none) (ps : List Byte) : Kept o F (State.queryWindow h ps s).1 none := by
  unfold State.queryWindow
  split
  · exact k
  · dsimp only
    split
    · exact k
    · split
      · exact k
      · exact k

/-! ## The Scheduler and the Completion Unit (R56, R143 to R145) -/

theorem Quiet.rebuild (s : State) : Quiet s s.rebuild := by constructor <;> simp

theorem Kept.rebuild (k : Kept o F s none) : Kept o F s.rebuild none := k.aside (.rebuild s) (by simp)

theorem Kept.setWeight (k : Kept o F s none) (mine : ¬F h) (n : Nat) : Kept o F (s.setWeight h n) none :=
  k.own (.setWeight s h n) mine (k.bounded h)

theorem Kept.setOwnWeight (k : Kept o F s none) (mine : ¬F h) (ps : List Byte) :
    Kept o F (State.setOwnWeight h ps s).1 none := by
  unfold State.setOwnWeight
  dsimp only
  split
  · exact k
  · split
    · exact k
    · exact (k.setWeight mine _).rebuild

/-- The queue of a host with its head record removed, and with its held list put at `held`. -/
theorem TakenOff.dequeue {held : List CtxNo} (p : Placed o.linesSound s c) (owner : (s.ctx c).owner = some h)
    (unready : (s.ctx c).state ≠ .ready) (first : (s.cq h).held = c :: held) (q : Cq) :
    TakenOff s ((s.setCq h q).setCq h { q with held := held }) c h where
  ctx _ := rfl
  ready g := (List.erase_of_not_mem (p.off_ready unready g)).symm
  held g := by
    by_cases same : g = h
    · rw [same, State.cq_setCq_self, first, List.erase_cons_head]
    · rw [State.cq_setCq_ne _ _ _ _ same, State.cq_setCq_ne _ _ _ _ same, p.erase_held owner same]
  cq g other := by rw [State.cq_setCq_ne _ _ _ _ other, State.cq_setCq_ne _ _ _ _ other]
  wd _ := rfl
  port _ := rfl
  weight _ := rfl
  window _ := rfl
  line _ := rfl
  service := rfl

/-- TKE takes the head record, and posts the head of the held list in its room. -/
theorem Kept.takeRecord (k : Kept o F s none) (mine : ¬F h) (ps : List Byte) : Kept o F (State.takeRecord h ps s).1 none := by
  obtain ⟨full, most⟩ := k.bounded h
  unfold State.takeRecord
  split
  · exact k
  · next r rest queue =>
    rw [queue] at full most
    have within : rest.length ≤ queueDepth := Nat.le_trans (Nat.le_succ _) most
    refine Kept.reevaluate ?_
    unfold State.releaseHeld
    rw [State.cq_setCq_self]
    dsimp only
    split
    · next empty => exact k.own (.setCq rfl) mine (by rw [State.cq_setCq_self]; exact ⟨fun e => absurd empty e, within⟩)
    · next c held first =>
      have p := k.tabled.placed c nofun
      obtain ⟨isHeld, owner⟩ := (p.held h).1 (by rw [first]; exact List.mem_cons_self)
      have off := k.tabled.takeOff (TakenOff.dequeue p owner (by simp [isHeld]) first { s.cq h with queue := rest }) owner mine
        (by rw [isHeld]; rfl) (by simp [isHeld])
      have seven : rest.length + 1 = queueDepth := full (by rw [first]; exact List.cons_ne_nil _ _)
      rw [State.ctx_setCq]
      split
      · refine off.post owner (k.unaborted (by simp [isHeld])) (fun g other => ?_) ?_ (fun _ => ?_) _
        · rw [State.cq_setCq_ne _ _ _ _ other, State.cq_setCq_ne _ _ _ _ other]
          exact k.bounded g
        · rw [State.cq_setCq_self]
          exact Nat.lt_of_lt_of_eq (Nat.lt_succ_self _) seven
        · rw [State.cq_setCq_self]
          exact seven
      · next unended => simpa [unended, isHeld] using p.record.pendingEnd

theorem Kept.peekRecord (k : Kept o F s none) (ps : List Byte) : Kept o F (State.peekRecord h ps s).1 none := by
  unfold State.peekRecord
  split
  · exact k
  · exact k

end

end Sys2Proof.Machine
end

section
/-! The steps of the part: every command of the interface but RESET keeps the tables of a sound state, and what they keep is what
the statements ask for. -/

namespace Sys2Proof.Machine

section
variable {o : State} {F : HostNo → Prop} {s t : State} {c : CtxNo} {h : HostNo}

/-! ## The accesses of a port -/

theorem Kept.resign (k : Kept o F s none) (mine : ¬F h) : Kept o F (s.resign h) none :=
  Kept.reevaluate ((k.setPort mine _).setWd_early mine fun y is => by cases is; exact .inr (.inl rfl))

theorem Kept.latchCommand (k : Kept o F s none) (mine : ¬F h) (b : Byte) : Kept o F (s.latchCommand h b) none := by
  unfold State.latchCommand
  dsimp only
  split
  · exact (k.setPort mine _).setPort mine _
  · exact (k.setPort mine _).resign mine
  · split
    · exact (k.setPort mine _).setPort mine _
    · exact (k.setPort mine _).setPort mine _

/-- The outcome of a command that always has a next state. -/
theorem next_inj {s t : State} (e : (Host.Outcome.next s : Host.Outcome State Fault Refusal) = .next t) : s = t := by
  cases e
  rfl

theorem Kept.commandByte (k : Kept o F s none) (mine : ¬F h) {b : Byte} (e : execCommandByte h b s = .next t) :
    Kept o F t none := by
  rw [← next_inj e]
  split
  · exact k.latchCommand mine b
  · exact k.latchCommand mine b
  · exact k.setPort mine _
  · exact k.setPort mine _
  · exact k

theorem Kept.parameterByte (k : Kept o F s none) (mine : ¬F h) {b : Byte} (e : execParameterByte h b s = .next t) :
    Kept o F t none := by
  rw [← next_inj e]
  split
  · dsimp only
    split
    · split
      · exact k.setPort mine _
      · exact k.setPort mine _
    · exact k.setPort mine _
  · exact k.setPort mine _
  · exact k.setPort mine _
  · exact k.setPort mine _
  · exact k

theorem Kept.statusRead (k : Kept o F s none) (mine : ¬F h) (e : execStatusRead h s = .next t) : Kept o F t none := by
  rw [← next_inj e]
  split
  · exact k.setPort mine _
  · exact k.setPort mine _

theorem Kept.responseRead (k : Kept o F s none) (mine : ¬F h) (e : execResponseRead h s = .next t) : Kept o F t none := by
  rw [← next_inj e]
  split
  · exact k.setPort mine _
  · split
    · exact k.setPort mine _
    · exact k.setPort mine _

theorem Kept.rsn (k : Kept o F s none) (mine : ¬F h) (e : execRsn h s = .next t) : Kept o F t none := by
  rw [← next_inj e]
  split
  · exact k.latchCommand mine _
  · exact k

theorem Kept.badCmd (k : Kept o F s none) (mine : ¬F h) {code : Byte} (e : execBadCmd h code s = .next t) : Kept o F t none := by
  rw [← next_inj e]
  split
  · exact k.latchCommand mine _
  · exact k

/-- PRST begins a withdrawal, or changes whose result the one in progress owes. -/
theorem Kept.prstAssertion (k : Kept o F s none) (mine : ¬F h) (e : execPrstAssertion h s = .next t) : Kept o F t none := by
  rw [← next_inj e]
  split
  · exact k
  · dsimp only
    split
    · next w withdraws =>
      refine (k.setPort mine _).setWd mine (fun y is past d _ owned active => ?_) fun y is past d => ?_
      · cases is
        exact (k.tabled.placed d nofun).cut h w withdraws past owned active
      · cases is
        exact (k.tabled.placed d nofun).gone h w withdraws past
    · split
      · exact (k.setPort mine _).setWd_early mine fun y is => by cases is; exact .inl rfl
      · exact Kept.reevaluate ((k.setPort mine _).setWd_early mine fun y is => by cases is; exact .inr (.inl rfl))

theorem Kept.prstRelease (k : Kept o F s none) (mine : ¬F h) (e : execPrstRelease h s = .next t) : Kept o F t none := by
  rw [← next_inj e]
  split
  · split
    · exact k.setPort mine _
    · exact k.setPort mine _
  · exact k

/-! ## The steps of a withdrawal (R161) -/

/-- The contexts of host `h` may be freed: none of them is in service. -/
def State.quiesced (s : State) (h : HostNo) : Prop := ∀ c, (s.ctx c).owner = some h → (s.ctx c).state ≠ .active

theorem State.ctx_freeCtx_ne (s : State) (h : HostNo) {c d : CtxNo} (other : d ≠ c) : (s.freeCtx h c).ctx d = s.ctx d := by
  rw [State.freeCtx_eq, State.ctx_setCtx_ne _ _ _ _ other]
  split
  · rw [State.ctx_releaseResources]
    rfl
  · rfl

theorem State.ctx_freeCtx_self (s : State) (h : HostNo) (c : CtxNo) : (s.freeCtx h c).ctx c = (s.ctx c).freed := by
  rw [State.freeCtx_eq, State.ctx_setCtx_self]

/-- The contexts that host `h` owns after one of its contexts has been freed are others, and as they were. -/
theorem State.owner_freeCtx {s : State} {h : HostNo} {c d : CtxNo} (owner : ((s.freeCtx h c).ctx d).owner = some h) :
    d ≠ c ∧ (s.freeCtx h c).ctx d = s.ctx d := by
  have other : d ≠ c := by
    rintro rfl
    rw [State.ctx_freeCtx_self] at owner
    cases owner
  exact ⟨other, s.ctx_freeCtx_ne h other⟩

/-- The contexts of a list are freed where they are host `h`'s. -/
theorem Kept.freeList (mine : ¬F h) (l : List CtxNo) : ∀ {s : State}, Kept o F s none → s.quiesced h →
    Kept o F (l.foldl (fun t c => if (t.ctx c).owner = some h then t.freeCtx h c else t) s) none ∧
      ∀ c, ((l.foldl (fun t c => if (t.ctx c).owner = some h then t.freeCtx h c else t) s).ctx c).owner = some h →
        c ∉ l ∧ (s.ctx c).owner = some h := by
  induction l with
  | nil => exact fun k _ => ⟨k, fun c owner => ⟨List.not_mem_nil, owner⟩⟩
  | cons c l ih =>
    intro s k quiesced
    rw [List.foldl_cons]
    split
    · next owner =>
      have freed := k.freeCtx mine owner (quiesced c owner)
      obtain ⟨kept, left⟩ := ih freed fun d owned => by
        obtain ⟨-, same⟩ := State.owner_freeCtx owned
        rw [same] at owned ⊢
        exact quiesced d owned
      refine ⟨kept, fun d owned => ?_⟩
      obtain ⟨later, before⟩ := left d owned
      obtain ⟨other, same⟩ := State.owner_freeCtx before
      exact ⟨by simp [other, later], same ▸ before⟩
    · next foreign =>
      obtain ⟨kept, left⟩ := ih k quiesced
      refine ⟨kept, fun d owned => ?_⟩
      obtain ⟨later, before⟩ := left d owned
      have other : d ≠ c := fun e => foreign (e ▸ before)
      exact ⟨by simp [other, later], before⟩

/-- Step 3 of a withdrawal leaves its host without a context (R28). -/
theorem Kept.freeContexts (k : Kept o F s none) (mine : ¬F h) (quiesced : s.quiesced h) :
    Kept o F (s.freeContexts h) none ∧ ∀ c, ((s.freeContexts h).ctx c).owner ≠ some h := by
  obtain ⟨kept, left⟩ := Kept.freeList mine allCtxs k quiesced
  exact ⟨kept, fun c owned => (left c owned).1 (List.mem_finRange c)⟩

theorem Window.refs_withdrawn (x : Window) (h : HostNo) : (x.withdrawn h).refs = x.refs := by
  unfold Window.withdrawn
  split
  · split <;> rfl
  · rfl

theorem Kept.withdrawWindows (k : Kept o F s none) (h : HostNo) : Kept o F (s.withdrawWindows h) none := by
  unfold State.withdrawWindows
  induction allWins generalizing s with
  | nil => exact k
  | cons u l ih =>
    rw [List.foldl_cons]
    exact ih (k.aside (.setWindow _ _ (Window.refs_withdrawn _ _)) rfl)

/-- Step 5 of a withdrawal: a host without contexts has an empty held list (R149). -/
theorem Kept.emptyQueue (k : Kept o F s none) (mine : ¬F h) (gone : ∀ c, (s.ctx c).owner ≠ some h) :
    Kept o F (s.emptyQueue h) none := by
  have unheld : (s.cq h).held = [] :=
    List.eq_nil_iff_forall_not_mem.2 fun c on => gone c (((k.tabled.placed c nofun).held h).1 on).2
  refine k.own (.setCq rfl) mine ?_
  rw [State.emptyQueue, State.cq_setCq_self]
  exact ⟨fun holds => absurd unheld holds, Nat.zero_le _⟩

theorem Kept.completeWithdrawal (k : Kept o F s none) (mine : ¬F h) : Kept o F (s.completeWithdrawal h) none := by
  unfold State.completeWithdrawal
  split
  · exact (k.setWd_early mine (x := none) nofun).setPort mine _
  · exact k

/-- Step 2 of the withdrawal of the host in service: the cut waits for the beat in flight, or is made (R118). -/
theorem Kept.cutStep (k : Kept o F s none) (mine : ¬F h) (served : s.servedHost = some h) (w : Withdrawal) :
    Kept o F (s.cutStep h w) none := by
  have owner : ∀ v, s.engine.service = some v → (s.ctx v.ctx).owner = some h := fun v service => by
    simpa [State.servedHost, service] using served
  unfold State.cutStep
  split
  · exact k.setWd_early mine fun y is => by cases is; exact .inr (.inr rfl)
  · refine Busy.cutService ⟨k, fun v service g owned => ?_⟩ owner
    rw [owner v service] at owned
    exact Option.some.inj owned ▸ mine

/-- A host that is not served has no ACTIVE context. -/
theorem Kept.quiesced (k : Kept o F s none) (unserved : s.servedHost ≠ some h) : s.quiesced h := by
  intro c owner active
  have serving := (k.tabled.placed c nofun).active.1 active
  obtain ⟨v, service, same⟩ := Option.map_eq_some_iff.1 serving
  exact unserved (by simp only [State.servedHost, service, same, owner])

theorem Kept.nextStep (k : Kept o F s none) (mine : ¬F h) {w : Withdrawal} (withdraws : s.wd h = some w) :
    Kept o F (s.nextStep h w) none := by
  have past : w.step = .windows ∨ w.step = .queue ∨ w.step = .weight → ∀ c, (s.ctx c).owner ≠ some h :=
    fun late c => (k.tabled.placed c nofun).gone h w withdraws late
  have cuts : Kept o F (if s.servedHost = some h then s.cutStep h w
      else s.setWd h (some { w with step := .contexts })) none := by
    split
    · next served => exact k.cutStep mine served w
    · next unserved =>
      refine k.setWd mine (fun _ _ _ c _ => k.quiesced unserved c) ?_
      rintro y ⟨⟩ (e | e | e) <;> cases e
  unfold State.nextStep
  split
  · split
    · exact k
    · exact k.beginDue mine
  · exact cuts
  · exact cuts
  · next step =>
    obtain ⟨freed, gone⟩ := k.freeContexts mine fun c => (k.tabled.placed c nofun).cut h w withdraws step
    refine Kept.reevaluate (freed.setWd mine ?_ fun _ _ _ => gone)
    rintro y ⟨⟩ e
    cases e
  · next step =>
    refine (k.withdrawWindows h).setWd mine ?_ fun _ _ _ => ?_
    · rintro y ⟨⟩ e
      cases e
    · simpa using past (.inl step)
  · next step =>
    refine (k.emptyQueue mine (past (.inr (.inl step)))).setWd mine ?_ fun _ _ _ => past (.inr (.inl step))
    rintro y ⟨⟩ e
    cases e
  · exact ((k.setWeight mine 1).rebuild.completeWithdrawal mine).reevaluate

theorem Kept.nextWithdrawalStep (k : Kept o F s none) (mine : ¬F h) (e : execNextWithdrawalStep h s = .next t) :
    Kept o F t none := by
  rw [← next_inj e]
  split
  · next w withdraws => exact k.nextStep mine withdraws
  · exact k

end

/-! ## The arrivals on the bus and on the lines -/

section
variable {s t : State} {F : HostNo → Prop}

theorem EngineSound.idle_of_asking {e : Engine} (sound : EngineSound e) (asking : e.state = .asking) : e.service = none := by
  have serving := sound.serving
  rw [asking] at serving
  exact Option.not_isSome_iff_eq_none.1 (Bool.eq_false_iff.1 serving)

theorem CoreSound.busy (core : CoreSound s) (none : ∀ h, ¬F h) : Busy s F s := ⟨core.kept F, fun _ _ h _ => none h⟩

/-- A write beat is in flight outside READING alone, so that a unit of the run is left. -/
theorem CoreSound.writes (core : CoreSound s) {beat : Beat} {v : Service} (inFlight : s.engine.beat = some beat)
    (service : s.engine.service = some v) (write : beat.write = true) : (s.ctx v.ctx).residual ≠ 0 := by
  refine core.left service (.inr ?_)
  have direction := ((core.engine.service v service).direction beat inFlight).1
  rw [write] at direction
  simpa using direction.symm

theorem Kept.grantArrival (core : CoreSound s) (e : execGrantArrival s = .next t) : Kept s F t none := by
  rw [← next_inj e]
  have seen : Kept s F (s.setEngine { s.engine with lgnt := true }) none := (core.kept F).setEngine rfl
  split
  · exact (seen.pastLate .expiry).takeGrant core.engine.idle_of_asking
  · exact seen

theorem Kept.grantWithdrawal (core : CoreSound s) (free : ∀ h, ¬F h) (e : execGrantWithdrawal s = .next t) :
    Kept s F t none := by
  rw [← next_inj e]
  have seen : Busy s F (s.setEngine { s.engine with lgnt := false }) := (core.busy free).setEngine rfl
  split
  · exact seen.kept
  · dsimp only
    split
    · exact seen.kept.setEngine rfl
    · refine Busy.settleLoss (seen.setEngine ?_)
      rfl

theorem Kept.beatAnswer (core : CoreSound s) (free : ∀ h, ¬F h) {a : Answer} {ld : Half} {term : Bool}
    (e : execBeatAnswer a ld term s = .next t) : Kept s F t none := by
  rw [← next_inj e]
  refine (core.busy free).onBeat .answer fun u busy ctx beat service => busy.answerBeat ?_ a ld term
  intro b v inFlight serves write
  rw [ctx]
  exact core.writes (beat ▸ inFlight) (service ▸ serves) write

theorem Kept.faultAnswer (core : CoreSound s) (free : ∀ h, ¬F h) {code : FaultCode} (e : execFaultAnswer code s = .next t) :
    Kept s F t none := by
  rw [← next_inj e]
  exact (core.busy free).onBeat .answer fun _ busy _ _ _ => busy.failBeat .fault

theorem Kept.ackTimeout (core : CoreSound s) (free : ∀ h, ¬F h) (e : execAckTimeout s = .next t) : Kept s F t none := by
  rw [← next_inj e]
  split
  · exact (core.busy free).onBeat .expiry fun _ busy _ _ _ => busy.failBeat .timeout
  · exact (core.kept F).pastLate .expiry

theorem Kept.requestAsserted (k : Kept s F s none) {n : LineNo} (e : execRequestObservedAsserted n s = .next t) :
    Kept s F t none := by
  rw [← next_inj e]
  have seen : Kept s F (s.setLine n { s.line n with level := true }) none := k.aside (.setLine s n rfl) rfl
  split
  · exact seen.reevaluate
  · exact seen

theorem Kept.dropRequest {o : State} (k : Kept o F s none) (c : CtxNo) : Kept o F (s.dropRequest c) none := by
  unfold State.dropRequest
  split
  · next v service =>
    split
    · exact k.serve service rfl ⟨rfl, id⟩
    · exact k
  · exact k

theorem Kept.requestDeasserted (k : Kept s F s none) {n : LineNo} (e : execRequestObservedDeasserted n s = .next t) :
    Kept s F t none := by
  rw [← next_inj e]
  split
  · next c bound =>
    have seen : Kept s F (s.setLine n { s.line n with level := false, armed := true }) none := k.aside (.setLine s n rfl) rfl
    exact (seen.dropRequest c).reevaluate
  · exact k.aside (.setLine s n rfl) rfl

theorem Kept.serviceCut (k : Kept s F s none) (free : ∀ h, ¬F h) (e : execServiceCut s = .next t) : Kept s F t none := by
  rw [← next_inj e]
  split
  · next h served =>
    split
    · split
      · exact k.cutStep (free h) served _
      · exact k
    · exact k
  · exact k

/-- With no command waiting the part selects, or issues the first beat of a service. -/
theorem Kept.goOn (core : CoreSound s) : Kept s F s.goOn none := by
  have k := core.kept F
  unfold State.goOn
  split
  · split
    · next asking => exact (k.pastLate .expiry).selectNow (core.engine.idle_of_asking asking) false
    · exact (k.pastLate .expiry).issueBeat
    · exact (k.pastLate .expiry).issueBeat
    · exact (k.pastLate .expiry).issueBeat
    · exact k
    · exact k
  · exact k

end

/-! ## Every command -/

/-- The hosts that a command does not concern: all but the one at whose port it is. -/
def sparedBy (i : Instr) (h : HostNo) : Prop := ∃ g, i.host = some g ∧ h ≠ g

theorem not_sparedBy_own {i : Instr} {h : HostNo} (host : i.host = some h) : ¬sparedBy i h := by
  rintro ⟨g, is, other⟩
  exact other (Option.some.inj (host.symm.trans is))

theorem not_sparedBy_free {i : Instr} (none : i.host = none) (h : HostNo) : ¬sparedBy i h := by
  rintro ⟨g, is, -⟩
  rw [none] at is
  cases is

section
variable {s t : State}

/-- A command that its block takes keeps what its effect keeps. -/
theorem CoreSound.take (core : CoreSound s) {i : Instr} {h : HostNo} (host : i.host = some h) {cmd : Cmd}
    {run : List Byte → State → State × Reply}
    (runs : ¬sparedBy i h → ∀ ps, (∀ y, s.wd h = some y → y.step = .begin) → Kept s (sparedBy i) (run ps s).1 none)
    (e : (Host.Outcome.next (s.take h cmd run) : Host.Outcome State Fault Refusal) = .next t) : Kept s (sparedBy i) t none := by
  have mine := not_sparedBy_own host
  rw [← next_inj e]
  exact (core.kept _).take mine core.ports (runs mine)

/-- Every command but RESET keeps the tables of a sound state, and leaves the hosts alone that it does not concern. -/
theorem CoreSound.exec (core : CoreSound s) {i : Instr} (unreset : i ≠ .reset) (e : exec i s = .next t) :
    Kept s (sparedBy i) t none := by
  have k := core.kept (sparedBy i)
  cases i with
  | commandByte h b => exact k.commandByte (not_sparedBy_own rfl) e
  | parameterByte h b => exact k.parameterByte (not_sparedBy_own rfl) e
  | statusRead h => exact k.statusRead (not_sparedBy_own rfl) e
  | responseRead h => exact k.responseRead (not_sparedBy_own rfl) e
  | clm h => exact core.take rfl (fun mine ps begins => k.claim mine begins ps) e
  | rel h => exact core.take rfl (fun mine ps _ => k.release mine ps) e
  | src h => exact core.take rfl (fun mine ps _ => k.setSource mine ps) e
  | dst h => exact core.take rfl (fun mine ps _ => k.setDest mine ps) e
  | cnt h => exact core.take rfl (fun mine ps _ => k.setCount mine ps) e
  | mod h => exact core.take rfl (fun mine ps _ => k.setMode mine ps) e
  | pat h => exact core.take rfl (fun mine ps _ => k.setPattern mine ps) e
  | lnk h => exact core.take rfl (fun mine ps _ => k.setLink mine ps) e
  | sta h => exact core.take rfl (fun mine ps _ => k.start mine ps) e
  | sus h => exact core.take rfl (fun mine ps _ => k.suspend mine ps) e
  | rsm h => exact core.take rfl (fun mine ps _ => k.resume mine ps) e
  | abt h => exact core.take rfl (fun mine ps _ => k.abort mine ps) e
  | qry h => exact core.take rfl (fun _ ps _ => k.query ps) e
  | opw h => exact core.take rfl (fun _ ps _ => k.openWindow ps) e
  | clw h => exact core.take rfl (fun _ ps _ => k.closeWindow ps) e
  | qwn h => exact core.take rfl (fun _ ps _ => k.queryWindow ps) e
  | wgt h => exact core.take rfl (fun mine ps _ => k.setOwnWeight mine ps) e
  | tke h => exact core.take rfl (fun mine ps _ => k.takeRecord mine ps) e
  | pek h => exact core.take rfl (fun _ ps _ => k.peekRecord ps) e
  | rsn h => exact k.rsn (not_sparedBy_own rfl) e
  | badCmd h code => exact k.badCmd (not_sparedBy_own rfl) e
  | prstAssertion h => exact k.prstAssertion (not_sparedBy_own rfl) e
  | prstRelease h => exact k.prstRelease (not_sparedBy_own rfl) e
  | reset => exact absurd rfl unreset
  | grantArrival => exact Kept.grantArrival core e
  | grantWithdrawal => exact Kept.grantWithdrawal core (not_sparedBy_free rfl) e
  | beatAnswer a ld term => exact Kept.beatAnswer core (not_sparedBy_free rfl) e
  | faultAnswer code => exact Kept.faultAnswer (code := code) core (not_sparedBy_free rfl) e
  | ackTimeout => exact Kept.ackTimeout core (not_sparedBy_free rfl) e
  | requestObservedAsserted n => exact k.requestAsserted e
  | requestObservedDeasserted n => exact k.requestDeasserted e
  | serviceCut => exact k.serviceCut (not_sparedBy_free rfl) e
  | nextWithdrawalStep h => exact k.nextWithdrawalStep (not_sparedBy_own rfl) e

/-- The soundness of the tables does not rest on the commands that wait. -/
theorem CoreSound.withPending (core : CoreSound s) (rest : List Instr) : CoreSound { s with pending := rest } := by
  have table := core.table
  exact ⟨core.queues, core.ports, core.engine, ⟨table.owned, table.ready, table.readyOnce, table.active, table.held,
    table.heldOnce, table.heldFull, table.pendingEnd, table.abortPending, table.suspendPending, table.cut, table.gone⟩,
    core.service, core.counts⟩

/-- One step of the part: the tables are kept from the state at its beginning, or the part is reset. -/
theorem CoreSound.step (core : CoreSound s) (e : step s = .next t) :
    (∃ F rest, Kept { s with pending := rest } F t none) ∨ ∃ u : State, t = u.afterReset := by
  unfold Machine.step at e
  split at e
  · next i rest pending =>
    by_cases resets : i = .reset
    · subst resets
      exact .inr ⟨_, (next_inj e).symm⟩
    · exact .inl ⟨sparedBy i, rest, (core.withPending rest).exec resets e⟩
  · rw [← next_inj e]
    exact .inl ⟨sparedBy .grantArrival, s.pending, Kept.goOn core⟩

/-! ## What is kept, in the terms of the statements -/

theorem Kept.table {o : State} {F : HostNo → Prop} (k : Kept o F t none) : TableSound t := by
  have p := fun c => k.tabled.placed c nofun
  exact ⟨fun c => (p c).record.owned, fun h c => (p c).ready h, k.tabled.readyOnce, fun c => (p c).active,
    fun h c => (p c).held h, k.tabled.heldOnce, fun h => (k.bounded h).1, fun c => (p c).record.pendingEnd,
    fun c => (p c).record.abortPending, fun c => (p c).record.suspendPending, fun h w c => (p c).cut h w,
    fun h w c => (p c).gone h w⟩

theorem Kept.counts {o : State} {F : HostNo → Prop} (k : Kept o F t none) : t.countsSound ∧ t.serviceMatches :=
  ⟨fun c => (k.tabled.placed c nofun).record.counts, fun v service => (k.tabled.served v service).1⟩

theorem Kept.lines {o : State} {F : HostNo → Prop} (k : Kept o F t none) (sound : o.linesSound) : t.linesSound :=
  fun n c => (k.tabled.placed c nofun).lines sound n

end

/-- Settles O51: what a host's command keeps leaves every other host apart. -/
theorem otherHostsUntouched : Obligations.OtherHostsUntouched := by
  intro s t i g h core host other e
  have unreset : i ≠ .reset := by
    rintro rfl
    cases host
  obtain ⟨port, cq, wd, weight, mine, others⟩ := (core.exec unreset e).tabled.apart h ⟨g, host, other⟩
  exact ⟨port, cq, wd, weight, mine, others⟩

/-- Settles O55: a step keeps every context in its place, and RESET frees them all. -/
theorem contextListsStaySound : Obligations.ContextListsStaySound := by
  intro s t core e
  rcases core.step e with ⟨F, rest, kept⟩ | ⟨u, rfl⟩
  · exact kept.table
  · exact u.reset_table

/-- Settles O56: a step keeps the counts of every context and the service record true to its context; after RESET nothing is
counted and nothing served. -/
theorem countsStaySound : Obligations.CountsStaySound := by
  intro s t core e
  rcases core.step e with ⟨F, rest, kept⟩ | ⟨u, rfl⟩
  · exact kept.counts
  · exact ⟨u.reset_counts, u.reset_core.service⟩

/-- Settles O57: a step moves references and lines with the contexts that hold them; after RESET there are none. -/
theorem referencesAndLinesStaySound : Obligations.ReferencesAndLinesStaySound := by
  intro s t core e
  rcases core.step e with ⟨F, rest, kept⟩ | ⟨u, rfl⟩
  · exact ⟨fun windows refs => kept.tabled.refs windows refs, fun lines => kept.lines lines⟩
  · exact ⟨fun _ _ => u.reset_refs, fun _ => u.reset_lines⟩

end Sys2Proof.Machine
end

section
/-! SUPPORT. The commands of the Window Table (chapter 2), settled one by one: each is taken from its port, and answers by the first
of its tests that fails, or by its effect. -/

namespace Sys2Proof.Machine

/-! ## OPW (R31, R32) -/

/-- The lowest-numbered CLOSED window (R32). -/
theorem State.lowestClosed_eq_some {s : State} {w : WinNo} (closed : (s.window w).state = .closed)
    (lowest : ∀ u, u < w → (s.window u).state ≠ .closed) : s.lowestClosed = some w := by
  rw [State.lowestClosed, allWins, ← Fin.find?_eq_find?_finRange, Fin.find?_eq_some_iff]
  simpa [closed] using lowest

theorem State.lowestClosed_eq_none {s : State} (used : ∀ u, (s.window u).state ≠ .closed) : s.lowestClosed = none := by
  simp [State.lowestClosed, used]

theorem ne_all_of_window {b : Byte} {w : WinNo} (number : b.toNat = w.val) : b ≠ 0xFF := by
  rintro rfl
  have := w.isLt
  simp at number
  omega

theorem State.openTarget_all (s : State) :
    s.openTarget 0xFF = match s.lowestClosed with
      | some w => .ok w
      | none => .error .noWindow := rfl

theorem State.openTarget_numbered {s : State} {b : Byte} {w : WinNo} (number : b.toNat = w.val) :
    s.openTarget b = if (s.window w).state = .closed then .ok w else .error .inUse := by
  rw [State.openTarget, if_neg (ne_all_of_window number), winOf_of_toNat number]

theorem widthOf_of_code {b : BitVec 2} {d : DeclWidth} (code : b = 0 ∧ d = .w8 ∨ b = 1 ∧ d = .w16 ∨ b = 2 ∧ d = .auto) :
    widthOf b = some d := by
  rcases code with ⟨rfl, rfl⟩ | ⟨rfl, rfl⟩ | ⟨rfl, rfl⟩ <;> rfl

theorem widthOf_assigned {b : BitVec 2} (assigned : b ≠ 3) : ∃ d, widthOf b = some d := by
  rw [← Option.isSome_iff_exists]
  revert b
  decide

theorem attrOf_clear {b : Byte} {d : DeclWidth} (clear : b.extractLsb' 4 4 = 0) (width : widthOf (b.extractLsb' 0 2) = some d) :
    attrOf b = some { width := d, burstAllowed := b.getLsbD 2, sideEffect := b.getLsbD 3 } := by
  rw [attrOf, if_pos clear, width]
  rfl

theorem attrOf_reserved {b : Byte} (reserved : b.extractLsb' 0 2 = 3 ∨ b.extractLsb' 4 4 ≠ 0) : attrOf b = none := by
  unfold attrOf
  split
  · next clear =>
    rw [reserved.resolve_right (not_not_intro clear)]
    rfl
  · rfl

theorem shareOf_clear {b : Byte} (clear : b.extractLsb' 4 4 = 0) : shareOf b = some (b.extractLsb' 0 4) := if_pos clear

theorem shareOf_reserved {b : Byte} (reserved : b.extractLsb' 4 4 ≠ 0) : shareOf b = none := if_neg reserved

/-- The share mask of an OPW names the hosts of the share byte, and the issuer (R32). -/
theorem share_names (b : Byte) (h g : HostNo) :
    (b.extractLsb' 0 4 ||| hostBit h).getLsbD g.val = (b.getLsbD g.val || decide (g = h)) := by
  have issuer : (hostBit h).getLsbD g.val = decide (g = h) := by revert g h; decide
  rw [BitVec.getLsbD_or, issuer, BitVec.getLsbD_extractLsb', decide_eq_true g.isLt, Nat.zero_add, Bool.true_and]

section
variable {s : State} {h : HostNo} {b b2 b1 b0 l2 l1 l0 attr share ack : Byte}

/-- An OPW whose parameters are in range opens its window, or answers why it takes none (R31, test 5). -/
theorem State.openWindow_ranged {a : AttrFields} {m : BitVec 4} (numbered : b = 0xFF ∨ ∃ w : WinNo, b.toNat = w.val)
    (ordered : (b2 ++ b1 ++ b0 : Addr) ≤ l2 ++ l1 ++ l0) (attrs : attrOf attr = some a) (shares : shareOf share = some m) :
    (∀ w, s.openTarget b = .ok w → State.openWindow h [b, b2, b1, b0, l2, l1, l0, attr, share, ack] s =
      (s.setWindow w (openedBy h (b2 ++ b1 ++ b0) (l2 ++ l1 ++ l0) a m ack),
        .answer [Result.ok.code, BitVec.ofNat 8 w.val])) ∧
    ∀ r, s.openTarget b = .error r →
      State.openWindow h [b, b2, b1, b0, l2, l1, l0, attr, share, ack] s = (s, refuseTwo r) := by
  have known : ¬(b ≠ 0xFF ∧ winOf b = none) := by
    rintro ⟨single, unknown⟩
    obtain ⟨w, number⟩ := numbered.resolve_left single
    rw [winOf_of_toNat number] at unknown
    cases unknown
  simp only [State.openWindow, param_zero, param_succ, addrOf, attrs, shares]
  rw [if_neg known, if_neg (BitVec.not_lt.2 ordered)]
  exact ⟨fun w target => by rw [target], fun r target => by rw [target]⟩

/-- Whichever parameter of an OPW is out of range, the answer is BAD_PARAM (R31, tests 1 to 4). -/
theorem State.openWindow_badParam
    (bad : 8 ≤ b.toNat ∧ b ≠ 0xFF ∨ (l2 ++ l1 ++ l0 : Addr) < b2 ++ b1 ++ b0 ∨ attr.extractLsb' 0 2 = 3 ∨
      attr.extractLsb' 4 4 ≠ 0 ∨ share.extractLsb' 4 4 ≠ 0) :
    State.openWindow h [b, b2, b1, b0, l2, l1, l0, attr, share, ack] s = (s, refuseTwo .badParam) := by
  by_cases unknown : b ≠ 0xFF ∧ winOf b = none
  · exact if_pos unknown
  by_cases disordered : (l2 ++ l1 ++ l0 : Addr) < b2 ++ b1 ++ b0
  · exact (if_neg unknown).trans (if_pos disordered)
  have reserved : attrOf attr = none ∨ shareOf share = none := by
    rcases bad with ⟨large, single⟩ | isLess | bits | bits | bits
    · exact absurd ⟨single, winOf_large large⟩ unknown
    · exact absurd isLess disordered
    · exact .inl (attrOf_reserved (.inl bits))
    · exact .inl (attrOf_reserved (.inr bits))
    · exact .inr (shareOf_reserved bits)
  refine (if_neg unknown).trans ((if_neg disordered).trans ?_)
  simp only [param_zero, param_succ]
  rcases reserved with none | none
  · rw [none]
  · rw [none]
    cases attrOf attr <;> rfl

end

/-- Settles O27: the tests of R31 in their order, and the fields of R32. -/
theorem windowOpenedOrRefused : Obligations.WindowOpenedOrRefused := by
  unfold Obligations.WindowOpenedOrRefused
  have answers : ∀ {s t : State} {h : HostNo} {ps bytes : List Byte}, s.given h .opw ps →
      State.openWindow h ps s = (t, .answer bytes) → t.port h = s.port h → exec (.opw h) s = .next (t.completed h bytes) :=
    fun given answer port => congrArg Host.Outcome.next (State.take_answers given answer port)
  refine ⟨fun s h b b2 b1 b0 l2 l1 l0 attr share ack w d given named closed ordered width clear sharers => ?_,
    fun s h b b2 b1 b0 l2 l1 l0 attr share ack given => ⟨fun bad => ?_, fun ordered assigned clear sharers =>
      ⟨fun w number used => ?_, fun all used => ?_⟩⟩⟩
  · have target : s.openTarget b = .ok w := by
      rcases named with number | ⟨rfl, lowest⟩
      · rw [State.openTarget_numbered number, if_pos closed]
      · rw [State.openTarget_all, State.lowestClosed_eq_some closed lowest]
    have opened := (State.openWindow_ranged (h := h) (ack := ack) (named.symm.imp And.left fun number => ⟨w, number⟩) ordered
      (attrOf_clear clear (widthOf_of_code width)) (shareOf_clear sharers)).1 w target
    exact ⟨_, answers given opened (State.port_setWindow ..), rfl, share_names share h⟩
  · exact answers given (State.openWindow_badParam bad) rfl
  · obtain ⟨d, width⟩ := widthOf_assigned assigned
    refine answers given ((State.openWindow_ranged (.inr ⟨w, number⟩) ordered (attrOf_clear clear width)
      (shareOf_clear sharers)).2 .inUse ?_) rfl
    rw [State.openTarget_numbered number, if_neg used]
  · obtain ⟨d, width⟩ := widthOf_assigned assigned
    subst all
    refine answers given ((State.openWindow_ranged (.inl rfl) ordered (attrOf_clear clear width)
      (shareOf_clear sharers)).2 .noWindow ?_) rfl
    rw [State.openTarget_all, State.lowestClosed_eq_none used]

/-! ## CLW (R35) -/

theorem State.closeWindow_numbered {s : State} {h : HostNo} {b : Byte} {w : WinNo} (number : b.toNat = w.val) :
    State.closeWindow h [b] s =
      if (s.window w).state = .closed then (s, .of .noWindow)
      else if (s.window w).creator ≠ some h then (s, .of .notOwner)
      else if 0 < (s.window w).refs then (s, .of .windowInUse)
      else (s.setWindow w (s.window w).close, .of .ok) := by
  simp only [State.closeWindow, param_zero, winOf_of_toNat number]

/-- Settles O28: the tests of Table 2-4 in their order. -/
theorem windowClosed : Obligations.WindowClosed := by
  unfold Obligations.WindowClosed
  intro s h b given
  have answers : ∀ {t : State} {r : Result}, State.closeWindow h [b] s = (t, .of r) → t.port h = s.port h →
      exec (.clw h) s = .next (t.completed h [r.code]) :=
    fun answer port => congrArg Host.Outcome.next (State.take_answers given answer port)
  refine ⟨fun large => answers (r := .badParam) ?_ rfl, fun w number => ?_⟩
  · simp only [State.closeWindow, param_zero, winOf_large large]
  · have tests := State.closeWindow_numbered (s := s) (h := h) number
    refine ⟨fun closed => answers (r := .noWindow) ?_ rfl, fun used foreign => answers (r := .notOwner) ?_ rfl,
      fun used own refs => answers (r := .windowInUse) ?_ rfl,
      fun used own unused => answers (r := .ok) ?_ (State.port_setWindow ..)⟩
    · rw [tests, if_pos closed]
    · rw [tests, if_neg used, if_pos foreign]
    · rw [tests, if_neg used, if_neg (not_not_intro own), if_pos refs]
    · rw [tests, if_neg used, if_neg (not_not_intro own), if_neg (by omega)]
      rfl

/-! ## QWN (R34) -/

/-- QWN byte 2 holds the state in its low bits, then whether there is a creator, and who (Table 10-9). -/
theorem windowByte_reads {t : WinState} (used : t ≠ .closed) (o : Option HostNo) :
    (t.code ||| bitAt 2 o.isSome ||| hostField o).extractLsb' 0 2 = (if t = .opened then 1 else 2) ∧
      (t.code ||| bitAt 2 o.isSome ||| hostField o).getLsbD 2 = o.isSome ∧
      (t.code ||| bitAt 2 o.isSome ||| hostField o).getLsbD 3 = false ∧
      ((t.code ||| bitAt 2 o.isSome ||| hostField o).extractLsb' 4 2).toNat = (o.map Fin.val).getD 0 ∧
      (t.code ||| bitAt 2 o.isSome ||| hostField o).extractLsb' 6 2 = 0 := by
  cases t with
  | closed => exact absurd rfl used
  | opened => revert o; decide
  | orphan => revert o; decide

theorem attrByte_reads (w : Window) :
    w.attrByte.extractLsb' 0 2 = (match w.width with
      | .w8 => 0
      | .w16 => 1
      | .auto => 2) ∧
    w.attrByte.getLsbD 2 = w.burstAllowed ∧ w.attrByte.getLsbD 3 = w.sideEffect ∧ w.attrByte.extractLsb' 4 4 = 0 := by
  unfold Window.attrByte
  generalize w.burstAllowed = burst
  generalize w.sideEffect = sideEffect
  cases w.width <;> revert burst sideEffect <;> decide

theorem learnedByte_reads (l : Option Width) (demoted : Bool) :
    (learnedCode l ||| bitAt 2 demoted).extractLsb' 0 2 = (match l with
      | none => 0
      | some .w8 => 1
      | some .w16 => 2) ∧
    (learnedCode l ||| bitAt 2 demoted).getLsbD 2 = demoted ∧ (learnedCode l ||| bitAt 2 demoted).extractLsb' 3 5 = 0 := by
  revert demoted
  rcases l with - | - | - <;> decide

theorem shareByte_reads (m : BitVec 4) :
    (m.setWidth 8).extractLsb' 0 4 = m ∧ (m.setWidth 8).extractLsb' 4 4 = 0 := by
  revert m
  decide

theorem State.queryWindow_numbered {s : State} {h : HostNo} {b : Byte} {w : WinNo} (number : b.toNat = w.val) :
    State.queryWindow h [b] s =
      if (s.window w).state = .closed then (s, .of .noWindow)
      else if (s.window w).creator = some h ∨ (s.window w).share.getLsbD h.val = true then (s, .answer (qwnBytes (s.window w)))
      else (s, .of .denied) := by
  simp only [State.queryWindow, param_zero, winOf_of_toNat number]

/-- Settles O29: the tests of R34 in their order, and the bytes of Table 10-9, each read back bit by bit. -/
theorem queryReportsWindow : Obligations.QueryReportsWindow := by
  unfold Obligations.QueryReportsWindow
  intro s h b given
  have answers : ∀ {bytes : List Byte}, State.queryWindow h [b] s = (s, .answer bytes) →
      exec (.qwn h) s = .next (s.completed h bytes) :=
    fun answer => congrArg Host.Outcome.next (State.take_answers given answer rfl)
  refine ⟨fun large => answers ?_, fun w number => ?_⟩
  · simp only [State.queryWindow, param_zero, winOf_large large]
    rfl
  · have tests := State.queryWindow_numbered (s := s) (h := h) number
    refine ⟨fun closed => answers ?_, fun used foreign unshared => answers ?_, fun used admitted => ?_⟩
    · rw [tests, if_pos closed]
      rfl
    · rw [tests, if_neg used, if_neg (not_or.2 ⟨foreign, by rw [unshared]; exact Bool.false_ne_true⟩)]
      rfl
    · obtain ⟨state, present, zero, creator, high⟩ := windowByte_reads used (s.window w).creator
      obtain ⟨width, burst, sideEffect, attrs⟩ := attrByte_reads (s.window w)
      obtain ⟨learned, demoted, clear⟩ := learnedByte_reads (s.window w).learned (s.window w).demoted
      obtain ⟨share, sharers⟩ := shareByte_reads (s.window w).share
      refine ⟨_, _, _, _, answers ?_, state, present, zero, creator, high, width, burst, sideEffect, attrs, learned, demoted,
        clear, share, sharers⟩
      rw [tests, if_neg used, if_pos admitted]
      rfl

end Sys2Proof.Machine
end

section
/-! SUPPORT. The fence around the windows is not kept from every state that the premises of O59 allow. They say of a word beat in
flight that its unit is whole (R80), and nothing of the width of its window, so that a burst of byte beats may be announced behind
it. Its answer then completes the unit, and the announced beats are issued past the end of the run. -/

namespace Sys2Proof.Machine

/-- Context 15 of host 0, ACTIVE in a CHECK of one two-byte unit at 000010H. -/
def wordCheckCtx : Ctx :=
  { Ctx.reset with
    state := .active, owner := some 0, parts := ⟨true, false, true, true, true, false⟩, kind := .check, unit := .two
    count := 1, residual := 1, srcWin := 7, srcStart := 0x000010, curSrc := 0x000010 }

/-- Window 7: OPEN, eight bits wide, with room for that unit alone. -/
def wordCheckWindow : Window :=
  { Window.reset with state := .opened, creator := some 0, base := 0x000010, limit := 0x000011, share := 1, refs := 1 }

/-- The service of that run, with one beat announced behind the one in flight. -/
def wordCheckService : Service := { newService 15 wordCheckCtx with burst := 1 }

/-- The beat in flight, a word beat. -/
def wordCheckBeat : Beat :=
  { write := false, addr := 0x000010, byte := false, bur := true, inBurst := true, hi := none, lo := none, ra := none
    term := false }

/-- The state of the counterexample, with the answer ANS8 to its beat waiting. -/
def wordCheckState : State :=
  { (State.reset.setCtx 15 wordCheckCtx).setWindow 7 wordCheckWindow with
    engine := { Engine.reset with
      state := .reading, service := some wordCheckService, beat := some wordCheckBeat, lreq := true, lown := true, lgnt := true }
    pending := [.beatAnswer .ans8 0 false] }

theorem wordCheckState_wd (h : HostNo) : wordCheckState.wd h = none := by revert h; decide +kernel

theorem wordCheckState_core : CoreSound wordCheckState where
  queues := by unfold State.queuesBounded; decide +kernel
  ports := by intro h; constructor <;> (revert h; decide +kernel)
  engine := by
    constructor
    case service => rintro v ⟨⟩; constructor <;> decide +kernel
    all_goals decide +kernel
  table := by
    constructor
    case cut => intro h w c e; rw [wordCheckState_wd] at e; cases e
    case gone => intro h w c e; rw [wordCheckState_wd] at e; cases e
    all_goals decide +kernel
  service := by rintro v ⟨⟩; constructor <;> decide +kernel
  counts := by intro c; constructor <;> (revert c; decide +kernel)

theorem wordCheckState_refs : wordCheckState.refsSound := by unfold State.refsSound; decide +kernel

theorem wordCheckState_fence : FenceSound wordCheckState where
  contexts := by
    intro c started
    obtain rfl : c = 15 := by revert c; decide +kernel
    exact ⟨fun _ => by constructor <;> decide +kernel, fun used => absurd used (by decide +kernel)⟩
  service := by
    rintro v ⟨⟩
    exact ⟨fun move => absurd move (by decide), fun _ => ⟨0, 1, by decide +kernel⟩, by decide +kernel⟩

/-- The answer ends the run by COUNT, and the announced beat follows it all the same, outside the window. -/
theorem wordCheckState_step : ∃ t v b, step wordCheckState = .next t ∧ t.engine.service = some v ∧ v.kind = .check ∧
    (t.ctx v.ctx).residual = 0 ∧ t.engine.beat = some b ∧ (t.window v.srcWin).limit < b.addr :=
  ⟨_, _, _, rfl, rfl, by decide +kernel, by decide +kernel, rfl, by decide +kernel⟩

/-- Refutes O59: a CHECK in flight has a unit of its run left to read, and after the answer of `wordCheckState` it has none. -/
theorem not_fenceStaysSound : ¬Obligations.FenceStaysSound := by
  intro keeps
  obtain ⟨t, v, b, taken, service, check, spent, -⟩ := wordCheckState_step
  have fence := keeps _ t wordCheckState_core wordCheckState_refs wordCheckState_fence taken
  obtain ⟨d, n, -, -, unread, within, -⟩ := (fence.service v service).check check
  rw [spent] at within
  change d + n ≤ 0 at within
  omega

end Sys2Proof.Machine
end

section
/-! SUPPORT. What a step keeps of the ring, the queues and the windows, whatever the rest of the state. `Tidy o s` says that the
state `s` in the middle of a step that began in `o` has kept the ring and the queues, and that each window has only been recounted:
references have come and gone, and an ORPHAN window has closed with its last one (R45). All acts are tidy but four, which write a
window record otherwise: OPW, CLW, step 4 of a withdrawal, and a completing answer. -/

namespace Sys2Proof.Machine

/-! ## A window whose references come and go (R39, R40, R45) -/

/-- The window `y` is `x` with another reference count, or with its last reference gone and closed. A CLOSED window takes no
reference, and an ORPHAN one is not left without. -/
def Window.Recounted (x y : Window) : Prop :=
  y = { x with refs := y.refs } ∧ (x.state = .closed → y.refs ≤ x.refs) ∧ (x.state = .orphan → 0 < x.refs → 0 < y.refs) ∨
    x.state = .orphan ∧ y = { x.close with refs := 0 }

theorem Window.Recounted.refl (x : Window) : x.Recounted x := .inl ⟨rfl, fun _ => Nat.le_refl _, fun _ => id⟩

theorem Window.Recounted.trans {x y z : Window} (a : x.Recounted y) (b : y.Recounted z) : x.Recounted z := by
  rcases a with ⟨same, shut, held⟩ | ⟨orphan, closes⟩
  · have state : y.state = x.state := by rw [same]
    rcases b with ⟨same', shut', held'⟩ | ⟨orphan', closes'⟩
    · rw [state] at shut' held'
      refine .inl ⟨?_, fun closed => (shut' closed).trans (shut closed), fun orphan some => held' orphan (held orphan some)⟩
      rw [same', same]
    · refine .inr ⟨state.symm.trans orphan', ?_⟩
      rw [closes', same]
      rfl
  · have state : y.state = .closed := by rw [closes]; rfl
    rcases b with ⟨same', shut', -⟩ | ⟨orphan', -⟩
    · have none : z.refs = 0 := Nat.le_zero.1 ((shut' state).trans (by rw [closes]))
      refine .inr ⟨orphan, ?_⟩
      rw [same', none, closes]
    · rw [state] at orphan'
      cases orphan'

theorem Window.Recounted.release (x : Window) : x.Recounted x.release := by
  rw [Window.release_eq]
  split
  · next last => exact .inr ⟨last.1, rfl⟩
  · next stays =>
    refine .inl ⟨rfl, fun _ => Nat.sub_le _ _, fun orphan _ => ?_⟩
    have more : ¬x.refs ≤ 1 := fun last => stays ⟨orphan, last⟩
    change 0 < x.refs - 1
    omega

theorem Window.Recounted.take {x : Window} (live : x.state ≠ .closed) (n : Nat) : x.Recounted { x with refs := x.refs + n } :=
  .inl ⟨rfl, fun closed => absurd closed live, fun _ some => Nat.add_pos_left some n⟩

theorem Window.Recounted.sound {x y : Window} (r : x.Recounted y) (sound : x.sound) : y.sound := by
  obtain ⟨closed, opened, orphan, ranged, unlearned⟩ := sound
  rcases r with ⟨same, shut, held⟩ | ⟨-, closes⟩
  · rw [same]
    refine ⟨fun is => ?_, opened, fun is => ⟨(orphan is).1, held is (orphan is).2⟩, ranged, unlearned⟩
    obtain ⟨creator, share, none⟩ := closed is
    exact ⟨creator, share, Nat.le_zero.1 (none ▸ shut is)⟩
  · rw [closes]
    exact ⟨fun _ => ⟨rfl, rfl, rfl⟩, nofun, nofun, fun live => absurd rfl live, fun _ => rfl⟩

/-! ## Tidy acts -/

/-- What a step that began in `o` has kept so far of the ring, the queues and the windows. -/
structure Tidy (o s : State) : Prop where
  ring : o.ringSound → s.ringSound
  queues : o.queuesBounded → s.queuesBounded
  windows : ∀ w, (o.window w).Recounted (s.window w)

theorem Tidy.refl (s : State) : Tidy s s := ⟨id, id, fun w => .refl (s.window w)⟩

/-- An act that leaves the ring and the queues alone. -/
structure Unturned (s t : State) : Prop where
  cq : ∀ g, t.cq g = s.cq g
  weight : ∀ g, t.weight g = s.weight g
  ring : t.sched.ring = s.sched.ring
  pointer : t.sched.pointer = s.sched.pointer

theorem State.ringSound_same {s t : State} (sound : s.ringSound) (weight : ∀ h, t.weight h = s.weight h)
    (ring : t.sched.ring = s.sched.ring) (pointer : t.sched.pointer = s.sched.pointer) : t.ringSound := by
  obtain ⟨within, given, slot⟩ := sound
  have weights : t.sched.weights = s.sched.weights := Vector.ext fun i bound => weight ⟨i, bound⟩
  exact ⟨fun h => by rw [weight]; exact within h, by rw [ring, weights]; exact given, by rw [pointer, ring]; exact slot⟩

/-- The ring that legal weights give holds every host, and its slot 0 is one of it. -/
theorem State.ringSound_rebuild {s : State} (within : ∀ h, 1 ≤ s.weight h ∧ s.weight h ≤ 4) : s.rebuild.ringSound := by
  have first : (0 : HostNo) ∈ ringOf s.sched.weights :=
    List.mem_flatMap.2 ⟨1, by decide, List.mem_filter.2 ⟨by decide, decide_eq_true (within 0).1⟩⟩
  exact ⟨within, rfl, List.length_pos_of_mem first⟩

section
variable {o s t : State} {c : CtxNo} {h : HostNo}

/-- An act that recounts windows, and leaves ring and queues alone. -/
theorem Tidy.recount (k : Tidy o s) (u : Unturned s t) (windows : ∀ w, (s.window w).Recounted (t.window w)) : Tidy o t where
  ring sound := State.ringSound_same (k.ring sound) u.weight u.ring u.pointer
  queues sound g := by rw [u.cq]; exact k.queues sound g
  windows w := (k.windows w).trans (windows w)

/-- An act that leaves ring, queues and windows alone. -/
theorem Tidy.aside (k : Tidy o s) (u : Unturned s t) (window : ∀ w, t.window w = s.window w) : Tidy o t :=
  k.recount u fun w => by rw [window]; exact .refl _

/-! ## Writes of the tables -/

theorem Tidy.setCtx (k : Tidy o s) (x : Ctx) : Tidy o (s.setCtx c x) := k.aside (by constructor <;> simp) (by simp)

theorem Tidy.setEngine (k : Tidy o s) (e : Engine) : Tidy o (s.setEngine e) := k.aside (by constructor <;> simp) (by simp)

theorem Tidy.setPort (k : Tidy o s) (p : Port) : Tidy o (s.setPort h p) := k.aside (by constructor <;> simp) (by simp)

theorem Tidy.setWd (k : Tidy o s) (x : Option Withdrawal) : Tidy o (s.setWd h x) := k.aside (by constructor <;> simp) (by simp)

theorem Tidy.setLine (k : Tidy o s) (n : LineNo) (x : Line) : Tidy o (s.setLine n x) := k.aside (by constructor <;> simp) (by simp)

theorem Tidy.leaveReady (k : Tidy o s) : Tidy o (s.leaveReady h c) := k.aside (by constructor <;> simp) (by simp)

theorem Tidy.enterTail (k : Tidy o s) : Tidy o (s.enterTail h c) := k.aside (by constructor <;> simp) (by simp)

theorem Tidy.dropMark (k : Tidy o s) : Tidy o s.dropMark := k.aside (by constructor <;> simp) (by simp)

theorem Tidy.countChoice (k : Tidy o s) : Tidy o s.countChoice := k.aside (by constructor <;> simp) (by simp)

theorem Tidy.reevaluate (k : Tidy o s) : Tidy o s.reevaluate := k.aside (by constructor <;> simp) (by simp)

/-- A completion queue is written with no more records than it may hold (R140). -/
theorem Tidy.setCq (k : Tidy o s) {q : Cq} (within : o.queuesBounded → q.queue.length ≤ queueDepth) : Tidy o (s.setCq h q) where
  ring := k.ring
  queues sound g := by
    rw [State.cq_setCq]
    split
    · exact within sound
    · exact k.queues sound g
  windows := k.windows

/-- The end of a service moves the pointer to a slot of the ring (R60). -/
theorem Tidy.movePointer (k : Tidy o s) : Tidy o s.movePointer where
  ring sound := by
    have before := k.ring sound
    obtain ⟨within, given, slot⟩ := before
    unfold State.movePointer
    split
    · exact ⟨within, given, Nat.mod_lt _ (Nat.zero_lt_of_lt slot)⟩
    · exact ⟨within, given, slot⟩
  queues sound g := by rw [State.cq_movePointer]; exact k.queues sound g
  windows w := by rw [State.window_movePointer]; exact k.windows w

/-! ## Starts, run ends and postings (chapters 1 and 8) -/

theorem Tidy.releaseResources (k : Tidy o s) : Tidy o (s.releaseResources c) :=
  k.recount (by constructor <;> simp) fun w => by
    rw [State.window_releaseResources]
    split
    · exact .refl _
    · exact .release _
    · exact (Window.Recounted.release _).trans (.release _)

/-- A start that has passed its checks names no CLOSED window (R16, R37). -/
theorem Tidy.takeStart (k : Tidy o s) (checked : s.startCheck c h = none) : Tidy o (s.takeStart c h) :=
  k.recount (by constructor <;> simp) fun w => by
    rw [(State.takeStart_started s c h).windows]
    by_cases unused : (s.ctx c).roles w = 0
    · rw [unused]
      exact .refl _
    · exact .take (((State.startCheck_none s c h).1 checked).live w (Nat.pos_of_ne_zero unused)) _

theorem Tidy.toClaimed (k : Tidy o s) : Tidy o (s.toClaimed c) := k.releaseResources.setCtx _

theorem Tidy.reload (k : Tidy o s) : Tidy o (s.reload c h) := k.aside (by constructor <;> simp) (by simp)

theorem Tidy.dispose (k : Tidy o s) (e : Cause) : Tidy o (s.dispose c h e).1 := by
  unfold State.dispose
  dsimp only
  split
  · exact k.reload
  · split
    · split
      · next may => exact k.toClaimed.takeStart may.2
      · exact k.toClaimed
    · exact k.toClaimed

/-- A posting where the queue has room for its record (R140). -/
theorem Tidy.post (k : Tidy o s) (e : RunEnd) (room : o.queuesBounded → (s.cq h).queue.length < queueDepth) :
    Tidy o (s.post c h e) :=
  (k.dispose e.cause).setCq fun sound => by simpa using room sound

theorem Tidy.runEnds (k : Tidy o s) (e : RunEnd) : Tidy o (s.runEnds c h e) := by
  unfold State.runEnds
  dsimp only
  split
  · next room => exact (k.setCtx _).post e fun _ => room
  · exact Tidy.setCq ((k.setCtx _).setCtx _) fun sound => k.queues sound h

/-! ## Ports and withdrawals (chapter 9) -/

theorem Tidy.reply (k : Tidy o s) (r : Reply) : Tidy o (s.reply h r) := k.aside (by constructor <;> simp) (by simp)

theorem Tidy.answerWaiter (k : Tidy o s) : Tidy o (s.answerWaiter c) := k.aside (by constructor <;> simp) (by simp)

theorem Tidy.beginDue (k : Tidy o s) : Tidy o (s.beginDue h) := k.aside (by constructor <;> simp) (by simp)

theorem Tidy.freeCtx (k : Tidy o s) : Tidy o (s.freeCtx h c) := by
  have off : Tidy o (s.offLists h c) := Tidy.setCq k.leaveReady fun sound => k.queues sound h
  rw [State.freeCtx_eq]
  split
  · exact off.releaseResources.setCtx _
  · exact off.setCtx _

theorem Tidy.freeContexts (k : Tidy o s) : Tidy o (s.freeContexts h) := by
  unfold State.freeContexts
  induction allCtxs generalizing s with
  | nil => exact k
  | cons c l ih =>
    rw [List.foldl_cons]
    split
    · exact ih k.freeCtx
    · exact ih k

/-! ## The end of a service, and the loss of the grant (chapters 4 and 5) -/

theorem Tidy.pastLate (k : Tidy o s) (r : Rival) : Tidy o (s.pastLate r) := k.setEngine _

theorem Tidy.issueBeat (k : Tidy o s) : Tidy o s.issueBeat := k.aside (by constructor <;> simp) (by simp)

theorem Tidy.selectNow (k : Tidy o s) (strobe : Bool) : Tidy o (s.selectNow strobe) := k.aside (by constructor <;> simp) (by simp)

theorem Tidy.takeGrant (k : Tidy o s) : Tidy o s.takeGrant := k.aside (by constructor <;> simp) (by simp)

theorem Tidy.leaveBus (k : Tidy o s) : Tidy o s.leaveBus := k.aside (by constructor <;> simp) (by simp)

theorem Tidy.afterService (k : Tidy o s) : Tidy o s.afterService := k.aside (by constructor <;> simp) (by simp)

theorem Tidy.dropService (k : Tidy o s) : Tidy o s.dropService := k.setEngine _

theorem Tidy.placeCompleted (k : Tidy o s) : Tidy o (s.placeCompleted c) := k.aside (by constructor <;> simp) (by simp)

theorem Tidy.endRun (k : Tidy o s) (e : RunEnd) : Tidy o (s.endRun c e) := by
  unfold State.endRun
  split
  · exact (k.runEnds e).answerWaiter
  · exact k

theorem Tidy.endService (k : Tidy o s) : Tidy o s.endService := by
  have moved := k.dropService.movePointer
  unfold State.endService
  split
  · exact k
  · dsimp only
    split
    · exact moved.placeCompleted.answerWaiter.afterService
    · next e _ =>
      split
      · exact (moved.endRun e).afterService
      · split
        · exact (moved.countChoice.afterService.endRun e).reevaluate
        · exact (moved.endRun e).countChoice.afterService

theorem Tidy.cutService (k : Tidy o s) : Tidy o (s.cutService h) := by
  unfold State.cutService
  split
  · exact k
  · next v _ =>
    have freed : Tidy o (s.dropService.dropMark.freeCtx h v.ctx) := k.dropService.dropMark.freeCtx
    dsimp only
    split
    · exact (freed.setWd _).afterService
    · exact freed.afterService

theorem Tidy.pinnedAbort (k : Tidy o s) : Tidy o s.pinnedAbort := by
  unfold State.pinnedAbort
  split
  · exact k
  · exact (k.setEngine _).endService

theorem Tidy.discardPartial (k : Tidy o s) : Tidy o s.discardPartial := k.aside (by constructor <;> simp) (by simp)

theorem Tidy.yieldService (k : Tidy o s) (v : Service) : Tidy o (s.yieldService v) := k.aside (by constructor <;> simp) (by simp)

theorem Tidy.afterPin (k : Tidy o s) (v : Service) (g : GrantLoss) : Tidy o (s.afterPin v g) := by
  unfold State.afterPin
  split
  · exact k
  · split
    · exact k.cutService
    · split
      · split
        · exact k.pinnedAbort
        · split
          · exact k.countChoice.takeGrant
          · exact k.countChoice.pinnedAbort
      · split
        · exact k.takeGrant
        · exact k

theorem Tidy.cutSettled (k : Tidy o s) (v : Service) : Tidy o (s.cutSettled v) := by
  unfold State.cutSettled
  split
  · exact k.aside (by constructor <;> simp) (by simp)
  · exact k

theorem Tidy.settleLoss (k : Tidy o s) : Tidy o s.settleLoss := by
  have d := k.discardPartial
  rw [State.settleLoss_eq]
  split
  · exact d.leaveBus
  · next v _ =>
    split
    · exact (d.setEngine _).afterPin v _
    · split
      · exact (d.cutSettled v).endService
      · exact (d.cutSettled v).yieldService v

theorem Tidy.proceed (k : Tidy o s) : Tidy o s.proceed := by
  unfold State.proceed
  split
  · exact k.settleLoss
  · exact k.issueBeat

theorem Tidy.cutAfterBeat (k : Tidy o s) (v : Service) : Tidy o (s.cutAfterBeat v) := by
  unfold State.cutAfterBeat
  split
  · exact k
  · split
    · split
      · exact k.cutService
      · exact k.settleLoss
    · exact k.cutService

/-! ## Beats, answers and failures (chapters 4 and 6) -/

theorem Tidy.stopReading (k : Tidy o s) : Tidy o s.stopReading := by
  unfold State.stopReading
  split
  · exact k
  · split
    · exact (k.setEngine _).proceed
    · exact k.endService

theorem Tidy.readHalf (k : Tidy o s) (v : Service) (b : Byte) : Tidy o (s.readHalf v b) := by
  have half : Tidy o (s.setEngine { s.engine with partialByte := some b, service := some { v with half := true } }) := k.setEngine _
  unfold State.readHalf
  dsimp only
  split
  · split
    · exact half.issueBeat
    · exact half.settleLoss
  · split
    · exact half.discardPartial.stopReading
    · exact half.issueBeat

theorem Tidy.readMove (k : Tidy o s) (v : Service) (bytes : List Byte) : Tidy o (s.readMove v bytes) := by
  unfold State.readMove
  dsimp only
  split
  · exact (k.setEngine _).proceed
  · split
    · exact (k.setEngine _).proceed
    · split
      · exact (k.setEngine _).proceed
      · exact (k.setEngine _).proceed

theorem Tidy.readCheck (k : Tidy o s) (v : Service) (bytes : List Byte) : Tidy o (s.readCheck v bytes) := by
  unfold State.readCheck
  dsimp only
  generalize committed : State.setEngine (s.setCtx _ _) _ = t
  have kept : Tidy o t := committed ▸ (k.setCtx _).setEngine _
  split
  · split
    · exact kept.endService
    · exact kept.proceed
  · split
    · exact kept.endService
    · exact kept.proceed

theorem Tidy.readDiscarded (k : Tidy o s) (v : Service) (unitDone : Bool) : Tidy o (s.readDiscarded v unitDone) := by
  have goesOn : ∀ y, Tidy o (if y.burst = 0 then (s.setService y).endService else (s.setService y).proceed) := by
    intro y
    split
    · exact (k.setEngine _).endService
    · exact (k.setEngine _).proceed
  exact goesOn _

theorem Tidy.readDone (k : Tidy o s) (v : Service) (b : Beat) (w : Width) (ld : Half) : Tidy o (s.readDone v b w ld) := by
  unfold State.readDone
  dsimp only
  split
  · exact k.readDiscarded v _
  · split
    · exact k.readHalf v _
    · split
      · exact k.readCheck v _
      · exact k.readMove v _

theorem Tidy.afterUnit (k : Tidy o t) (s : State) (v : Service) (found : Option Cause) : Tidy o (s.afterUnit t v found) := by
  have drained : Tidy o (t.setEngState .draining).proceed := (k.setEngine _).proceed
  unfold State.afterUnit
  split
  · split
    · exact k.endService
    · split
      · exact k.endService
      · exact drained
    · split
      · exact k.endService
      · split
        · split
          · exact drained
          · exact k.endService
        · exact k.proceed
  · split
    · exact k.endService
    · exact k.proceed

theorem Tidy.writeDone (k : Tidy o s) (v : Service) (b : Beat) : Tidy o (s.writeDone v b) := by
  unfold State.writeDone
  split
  · obtain ⟨marked, written⟩ := s.writeUnitDone_eq v
    rw [written]
    exact ((k.setCtx _).setEngine _).afterUnit s v _
  · exact (k.setEngine _).proceed

theorem Tidy.failBeat (k : Tidy o s) (e : Cause) : Tidy o (s.failBeat e) := by
  unfold State.failBeat
  split
  · dsimp only
    split
    · exact (k.setEngine _).cutAfterBeat _
    · split
      · split
        · exact (k.setEngine _).endService
        · exact (k.setEngine _).discardPartial.stopReading
      · exact (k.setEngine _).endService
      · exact (k.setEngine _).endService
  · exact k

theorem Tidy.onBeat (k : Tidy o s) (r : Rival) {f : State → State} (taken : ∀ t, Tidy o t → Tidy o (f t)) :
    Tidy o (s.onBeat r f) := by
  rcases s.onBeat_cases r f with late | late | ⟨v, b, t, -, -, rfl | rfl, effect⟩
  · rw [late]; exact k.pastLate r
  · rw [late]; exact k.countChoice.setEngine _
  · rw [effect]; exact taken _ (k.setEngine _)
  · rw [effect]; exact taken _ (k.countChoice.setEngine _)

theorem Tidy.abortReaches (k : Tidy o s) : Tidy o s.abortReaches := by
  unfold State.abortReaches
  split
  · exact k
  · split
    · split
      · exact k.discardPartial.stopReading
      · exact k.setEngine _
    · split
      · exact k.setEngine _
      · split
        · exact k.endService
        · exact k
    · exact k.pinnedAbort
    · exact k

end

end Sys2Proof.Machine
end

section
/-! SUPPORT. The commands, against what a step keeps of the ring, the queues and the windows: every command but RESET is steady, and
every one but the four that write a window record is tidy. -/

namespace Sys2Proof.Machine

/-! ## A window that is in use, over a step (R41, R45) -/

/-- The window `y` is `x` with its range, its attributes and its ack limit, and with its share mask too unless it is CLOSED. -/
def Window.Stays (x y : Window) : Prop :=
  y = { x with
    state := y.state, creator := y.creator, share := y.share, learned := y.learned, demoted := y.demoted, refs := y.refs } ∧
  (y.share = x.share ∨ y.state = .closed ∧ y.refs = 0)

theorem Window.Stays.recount {x y z : Window} (a : x.Stays y) (b : y.Recounted z) : x.Stays z := by
  obtain ⟨same, share⟩ := a
  rcases b with ⟨same', shut, -⟩ | ⟨-, closes⟩
  · refine ⟨by rw [same', same], ?_⟩
    rcases share with share | ⟨closed, none⟩
    · exact .inl (by rw [same']; exact share)
    · exact .inr ⟨by rw [same']; exact closed, Nat.le_zero.1 (none ▸ shut closed)⟩
  · rw [closes]
    exact ⟨by rw [same]; rfl, .inr ⟨rfl, rfl⟩⟩

theorem Window.Stays.refl (x : Window) : x.Stays x := ⟨rfl, .inl rfl⟩

/-! ## What a step keeps -/

/-- What a step from `s` to `t` keeps of the ring, the queues and the windows. -/
structure Steady (s t : State) : Prop where
  ring : s.ringSound → t.ringSound
  queues : s.queuesBounded → t.queuesBounded
  windows : s.windowsSound → t.windowsSound
  inUse : s.windowsSound → ∀ w, 0 < (s.window w).refs → (s.window w).Stays (t.window w)

section
variable {o s t u : State} {c : CtxNo} {h : HostNo}

theorem Steady.then (a : Steady s t) (b : Tidy t u) : Steady s u where
  ring sound := b.ring (a.ring sound)
  queues sound := b.queues (a.queues sound)
  windows sound w := (b.windows w).sound (a.windows sound w)
  inUse sound w used := (a.inUse sound w used).recount (b.windows w)

theorem Steady.refl (s : State) : Steady s s := ⟨id, id, id, fun _ w _ => .refl (s.window w)⟩

theorem Tidy.steady (k : Tidy s t) : Steady s t := (Steady.refl s).then k

/-- Window records are written, each soundly, and those in use keep what a window in use keeps. -/
theorem Steady.rewrite (un : Unturned s t)
    (windows : ∀ w, (s.window w).sound → (t.window w).sound ∧ (0 < (s.window w).refs → (s.window w).Stays (t.window w))) :
    Steady s t where
  ring sound := State.ringSound_same sound un.weight un.ring un.pointer
  queues sound g := by rw [un.cq]; exact sound g
  windows sound w := (windows w (sound w)).1
  inUse sound w := (windows w (sound w)).2

/-- One window record is written. -/
theorem Steady.setWindow {w : WinNo} {x : Window}
    (writes : (s.window w).sound → x.sound ∧ (0 < (s.window w).refs → (s.window w).Stays x)) : Steady s (s.setWindow w x) :=
  .rewrite (by constructor <;> simp) fun v sound => by
    rw [State.window_setWindow]
    split
    · next same => rw [same] at sound ⊢; exact writes sound
    · exact ⟨sound, fun _ => .refl _⟩

/-! ## The commands that write a window record -/

/-- A CLOSED window is in no use, and OPW opens it with a range that is not empty, shared by its creator (R31, R32). -/
theorem Window.opened_sound (base limit : Addr) (a : AttrFields) (share : BitVec 4) (ack : Byte) (ordered : base ≤ limit) :
    (openedBy h base limit a share ack).sound := by
  have issuer : (hostBit h).getLsbD h.val = true := by revert h; decide
  refine ⟨nofun, fun _ => ⟨h, rfl, ?_⟩, nofun, fun _ => ordered, fun _ => rfl⟩
  change (share ||| hostBit h).getLsbD h.val = true
  rw [BitVec.getLsbD_or, issuer, Bool.or_true]

theorem Steady.openWindow (ps : List Byte) : Steady s (State.openWindow h ps s).1 := by
  unfold State.openWindow
  dsimp only
  split
  · exact .refl s
  · split
    · exact .refl s
    · next ordered =>
      split
      · split
        · next w target =>
          refine .setWindow fun sound => ⟨Window.opened_sound _ _ _ _ _ (BitVec.not_lt.1 ordered), fun used => ?_⟩
          have unused := (sound.1 (State.openTarget_closed target)).2.2
          omega
        · exact .refl s
      · exact .refl s

theorem Window.close_sound (x : Window) (unused : x.refs = 0) : x.close.sound :=
  ⟨fun _ => ⟨rfl, rfl, unused⟩, nofun, nofun, fun live => absurd rfl live, fun _ => rfl⟩

theorem Steady.closeWindow (ps : List Byte) : Steady s (State.closeWindow h ps s).1 := by
  unfold State.closeWindow
  split
  · exact .refl s
  · dsimp only
    split
    · exact .refl s
    · split
      · exact .refl s
      · split
        · exact .refl s
        · next unused => exact .setWindow fun _ => ⟨Window.close_sound _ (by omega), fun used => absurd used unused⟩

theorem Window.withdrawn_sound {x : Window} (sound : x.sound) (h : HostNo) : (x.withdrawn h).sound := by
  unfold Window.withdrawn
  split
  · next mine =>
    split
    · next unused => exact Window.close_sound x unused
    · next used =>
      obtain ⟨-, -, -, ranged, unlearned⟩ := sound
      exact ⟨nofun, nofun, fun _ => ⟨rfl, Nat.pos_of_ne_zero used⟩, fun _ => ranged (by simp [mine.1]), unlearned⟩
  · exact sound

theorem Window.withdrawn_stays {x : Window} (used : 0 < x.refs) (h : HostNo) : x.Stays (x.withdrawn h) := by
  unfold Window.withdrawn
  split
  · rw [if_neg (Nat.ne_of_gt used)]
    exact ⟨rfl, .inl rfl⟩
  · exact .refl x

theorem State.window_withdrawList (h : HostNo) (w : WinNo) : ∀ (l : List WinNo) (s : State), l.Nodup →
    (l.foldl (fun t u => t.setWindow u ((t.window u).withdrawn h)) s).window w =
      if w ∈ l then (s.window w).withdrawn h else s.window w
  | [], s, _ => rfl
  | u :: l, s, once => by
    obtain ⟨off, rest⟩ := List.nodup_cons.1 once
    rw [List.foldl_cons, State.window_withdrawList h w l _ rest, State.window_setWindow]
    by_cases same : w = u
    · subst same
      simp [off]
    · simp [same]

/-- Step 4 of a withdrawal takes every window of the host (R44). -/
theorem State.window_withdrawWindows (s : State) (h : HostNo) (w : WinNo) :
    (s.withdrawWindows h).window w = (s.window w).withdrawn h :=
  (State.window_withdrawList h w allWins s (List.nodup_finRange 8)).trans (if_pos (List.mem_finRange w))

theorem Steady.withdrawWindows (s : State) (h : HostNo) : Steady s (s.withdrawWindows h) :=
  .rewrite (by constructor <;> simp) fun w sound => by
    rw [State.window_withdrawWindows]
    exact ⟨Window.withdrawn_sound sound h, fun used => Window.withdrawn_stays used h⟩

/-! ## A completing answer (R79, R82, R84, R88) -/

/-- A window as an answer of width `a` leaves it: the width learned on an AUTO window, and the burst demoted where it is cut short. -/
def Window.taught (x : Window) (a : Width) (cutShort : Bool) : Window :=
  { x with
    learned := if x.width = .auto ∧ x.learned = none then some a else x.learned
    demoted := x.demoted || cutShort }

theorem Window.learn_eq (x : Window) (a : Width) :
    x.learn a = { x with learned := if x.width = .auto ∧ x.learned = none then some a else x.learned } := by
  unfold Window.learn
  split <;> rfl

theorem Window.taught_stays (x : Window) (a : Width) (cutShort : Bool) : x.Stays (x.taught a cutShort) := ⟨rfl, .inl rfl⟩

theorem Window.taught_sound {x : Window} (sound : x.sound) (a : Width) (cutShort : Bool) : (x.taught a cutShort).sound := by
  obtain ⟨closed, opened, orphan, ranged, unlearned⟩ := sound
  refine ⟨closed, opened, orphan, ranged, fun declared => ?_⟩
  change (if x.width = .auto ∧ x.learned = none then some a else x.learned) = none
  rw [if_neg fun auto => declared auto.1]
  exact unlearned declared

/-- The service record after an answer: the burst is ended where it is cut short (R88). -/
def Service.cutBurst (v : Service) (cutShort : Bool) : Service := { v with burst := if cutShort = true then 0 else v.burst }

theorem State.noteAnswer_eq (s : State) (v : Service) (b : Beat) (a : Answer) :
    s.noteAnswer v b a = (s.setWindow (v.beatWindow b) ((s.window (v.beatWindow b)).taught a.width (a.single && b.inBurst))).setEngine
      { s.engine with beat := none, service := some (v.cutBurst (a.single && b.inBurst)) } := by
  unfold State.noteAnswer
  dsimp only
  rw [Window.learn_eq]
  cases a.single && b.inBurst
  · rw [Window.taught, Bool.or_false]
    rfl
  · rw [Window.taught, Bool.or_true]
    rfl

/-- What follows the note of an answer of width `w` to the beat `b`, with TERM taken or not: the cut that waits for the beat, or its
data. -/
def State.answered (s : State) (v : Service) (b : Beat) (w : Width) (ld : Half) (marks : Bool) : State :=
  if s.cutWaiting v then s.cutAfterBeat v
  else if b.write then s.writeDone { v with termMark := v.termMark || marks } b
  else s.readDone { v with termMark := v.termMark || marks } b w ld

/-- An answer of the width in force, or of any width where none is, completes the beat. -/
theorem State.answerBeat_completes {v : Service} {b : Beat} {a : Answer} (service : s.engine.service = some v)
    (beat : s.engine.beat = some b)
    (fits : (s.window (v.beatWindow b)).inForce = none ∨ (s.window (v.beatWindow b)).inForce = some a.width) (ld : Half)
    (term : Bool) :
    s.answerBeat a ld term =
      (s.noteAnswer v b a).answered (v.cutBurst (a.single && b.inBurst)) b a.width ld (takesTerm v b term) := by
  unfold State.answerBeat
  simp only [service, beat]
  rw [if_neg (by rcases fits with e | e <;> simp [e])]
  rfl

/-- An answer of another width fails the beat. -/
theorem State.answerBeat_fails {v : Service} {b : Beat} {a : Answer} (service : s.engine.service = some v)
    (beat : s.engine.beat = some b) (known : (s.window (v.beatWindow b)).inForce.isSome = true)
    (other : (s.window (v.beatWindow b)).inForce ≠ some a.width) (ld : Half) (term : Bool) :
    s.answerBeat a ld term = s.failBeat .width := by
  unfold State.answerBeat
  simp only [service, beat]
  rw [if_pos (by simp [known, other])]

theorem Tidy.answered (k : Tidy o s) (v : Service) (b : Beat) (w : Width) (ld : Half) (marks : Bool) :
    Tidy o (s.answered v b w ld marks) := by
  unfold State.answered
  split
  · exact k.cutAfterBeat v
  · split
    · exact k.writeDone _ b
    · exact k.readDone _ b w ld

theorem Steady.noteAnswer (v : Service) (b : Beat) (a : Answer) : Steady s (s.noteAnswer v b a) := by
  rw [State.noteAnswer_eq]
  exact Steady.then (.setWindow fun sound => ⟨Window.taught_sound sound _ _, fun _ => Window.taught_stays _ _ _⟩)
    ((Tidy.refl _).setEngine _)

theorem Steady.answerBeat (a : Answer) (ld : Half) (term : Bool) : Steady s (s.answerBeat a ld term) := by
  cases beat : s.engine.beat with
  | none => simp only [State.answerBeat, beat]; exact .refl s
  | some b =>
    cases service : s.engine.service with
    | none => simp only [State.answerBeat, beat, service]; exact .refl s
    | some v =>
      by_cases fits : (s.window (v.beatWindow b)).inForce = none ∨ (s.window (v.beatWindow b)).inForce = some a.width
      · rw [State.answerBeat_completes service beat fits]
        exact (Steady.noteAnswer v b a).then ((Tidy.refl _).answered _ b _ ld _)
      · obtain ⟨known, other⟩ := not_or.1 fits
        rw [State.answerBeat_fails service beat (Option.isSome_iff_ne_none.2 known) other]
        exact ((Tidy.refl s).failBeat .width).steady

theorem Steady.beatAnswer (a : Answer) (ld : Half) (term : Bool) :
    Steady s (s.onBeat .answer fun t => t.answerBeat a ld term) := by
  have taken : ∀ t e, t = s ∨ t = s.countChoice → Steady s ((t.setEngine e).answerBeat a ld term) := by
    rintro t e (rfl | rfl)
    · obtain ⟨ring, queues, windows, inUse⟩ := Steady.answerBeat (s := t.setEngine e) a ld term
      exact ⟨ring, queues, windows, inUse⟩
    · obtain ⟨ring, queues, windows, inUse⟩ := Steady.answerBeat (s := s.countChoice.setEngine e) a ld term
      exact ⟨ring, queues, windows, inUse⟩
  rcases s.onBeat_cases .answer fun t => t.answerBeat a ld term with late | late | ⟨v, b, t, -, -, begins, effect⟩
  · rw [late]; exact ((Tidy.refl s).pastLate _).steady
  · rw [late]; exact ((Tidy.refl s).countChoice.setEngine _).steady
  · rw [effect]; exact taken t _ begins

/-! ## The commands that a block takes -/

theorem Steady.take {cmd : Cmd} {run : List Byte → State → State × Reply} (runs : ∀ ps, Steady s (run ps s).1) :
    Steady s (s.take h cmd run) := by
  unfold State.take
  split
  · split
    · exact (runs _).then ((Tidy.refl _).reply _)
    · exact .refl s
  · exact .refl s

theorem Tidy.onCtx (k : Tidy o s) {ps : List Byte} {accept : CtxState → Bool} {run : CtxNo → State × Reply}
    (runs : ∀ c, Tidy o (run c).1) : Tidy o (s.onCtx h ps accept run).1 := by
  unfold State.onCtx
  split
  · exact k
  · exact runs _

theorem Tidy.claim (k : Tidy o s) (ps : List Byte) : Tidy o (State.claim h ps s).1 := by
  unfold State.claim
  dsimp only
  split
  · split
    · exact k.setCtx _
    · exact k
  · split
    · exact k
    · split
      · exact k.setCtx _
      · exact k

theorem Tidy.setPart (k : Tidy o s) (x : Option Ctx) : Tidy o (s.setPart c x).1 := by
  cases x with
  | none => exact k
  | some x => exact k.setCtx x

theorem Tidy.setLink (k : Tidy o s) (ps : List Byte) : Tidy o (State.setLink h ps s).1 := by
  refine k.onCtx fun c => ?_
  dsimp only
  split
  · exact k.setPart _
  · split
    · exact k
    · split
      · exact k
      · split
        · exact k
        · exact k.setPart _

theorem Tidy.start (k : Tidy o s) (ps : List Byte) : Tidy o (State.start h ps s).1 := by
  refine k.onCtx fun c => ?_
  split
  · exact k
  · next checked => exact (k.takeStart checked).reevaluate

theorem Tidy.suspend (k : Tidy o s) (ps : List Byte) : Tidy o (State.suspend h ps s).1 := by
  refine k.onCtx fun c => ?_
  dsimp only
  split
  · exact k.setCtx _
  · exact (k.leaveReady.setCtx _).reevaluate

theorem Tidy.resume (k : Tidy o s) (ps : List Byte) : Tidy o (State.resume h ps s).1 :=
  k.onCtx fun _ => (k.setCtx _).enterTail.reevaluate

theorem Tidy.abort (k : Tidy o s) (ps : List Byte) : Tidy o (State.abort h ps s).1 := by
  refine k.onCtx fun c => ?_
  dsimp only
  split
  · exact (k.setCtx _).abortReaches
  · exact (k.leaveReady.runEnds abortEnd).reevaluate

theorem Tidy.queryWindow (k : Tidy o s) (ps : List Byte) : Tidy o (State.queryWindow h ps s).1 := by
  unfold State.queryWindow
  split
  · exact k
  · dsimp only
    split
    · exact k
    · split
      · exact k
      · exact k

/-- A legal weight is set and the ring rebuilt (R56, R58). -/
theorem Tidy.setWeight_rebuild (k : Tidy o s) {n : Nat} (within : 1 ≤ n ∧ n ≤ 4) : Tidy o (s.setWeight h n).rebuild where
  ring sound := State.ringSound_rebuild fun g => by
    rw [State.weight_setWeight]
    split
    · exact within
    · exact (k.ring sound).1 g
  queues sound g := by rw [State.cq_rebuild]; exact k.queues sound g
  windows w := by rw [State.window_rebuild]; exact k.windows w

theorem Tidy.setOwnWeight (k : Tidy o s) (ps : List Byte) : Tidy o (State.setOwnWeight h ps s).1 := by
  unfold State.setOwnWeight
  dsimp only
  split
  · exact k
  · next legal =>
    split
    · exact k
    · exact k.setWeight_rebuild (by omega)

/-- The head of the held list is posted where the queue has room for its record (R143). -/
theorem Tidy.releaseHeld (k : Tidy o s) (room : o.queuesBounded → (s.cq h).queue.length < queueDepth) :
    Tidy o (s.releaseHeld h) := by
  unfold State.releaseHeld
  split
  · exact k
  · next c rest _ =>
    have off : Tidy o (s.setCq h { s.cq h with held := rest }) := k.setCq fun sound => k.queues sound h
    dsimp only
    split
    · exact off.post _ fun sound => by rw [State.cq_setCq_self]; exact room sound
    · exact off

/-- TKE makes the room (R144). -/
theorem Tidy.takeRecord (k : Tidy o s) (ps : List Byte) : Tidy o (State.takeRecord h ps s).1 := by
  unfold State.takeRecord
  split
  · exact k
  · next r rest queue =>
    have room : o.queuesBounded → rest.length < queueDepth := fun sound => by
      have within := k.queues sound h
      rw [queue] at within
      exact within
    have taken : Tidy o (s.setCq h { s.cq h with queue := rest }) := k.setCq fun sound => (room sound).le
    exact (taken.releaseHeld fun sound => by rw [State.cq_setCq_self]; exact room sound).reevaluate

theorem Tidy.peekRecord (k : Tidy o s) (ps : List Byte) : Tidy o (State.peekRecord h ps s).1 := by
  unfold State.peekRecord
  split
  · exact k
  · exact k

/-! ## The accesses of a port (chapter 9) -/

theorem Tidy.resign (k : Tidy o s) : Tidy o (s.resign h) := ((k.setPort _).setWd _).reevaluate

theorem Tidy.latchCommand (k : Tidy o s) (b : Byte) : Tidy o (s.latchCommand h b) := by
  unfold State.latchCommand
  dsimp only
  split
  · exact (k.setPort _).setPort _
  · exact (k.setPort _).resign
  · split
    · exact (k.setPort _).setPort _
    · exact (k.setPort _).setPort _

theorem Tidy.commandByte {b : Byte} (e : execCommandByte h b s = .next t) : Tidy s t := by
  have k := Tidy.refl s
  rw [← next_inj e]
  split
  · exact k.latchCommand b
  · exact k.latchCommand b
  · exact k.setPort _
  · exact k.setPort _
  · exact k

theorem Tidy.parameterByte {b : Byte} (e : execParameterByte h b s = .next t) : Tidy s t := by
  have k := Tidy.refl s
  rw [← next_inj e]
  split
  · dsimp only
    split
    · split
      · exact k.setPort _
      · exact k.setPort _
    · exact k.setPort _
  · exact k.setPort _
  · exact k.setPort _
  · exact k.setPort _
  · exact k

theorem Tidy.statusRead (e : execStatusRead h s = .next t) : Tidy s t := by
  have k := Tidy.refl s
  rw [← next_inj e]
  split
  · exact k.setPort _
  · exact k.setPort _

theorem Tidy.responseRead (e : execResponseRead h s = .next t) : Tidy s t := by
  have k := Tidy.refl s
  rw [← next_inj e]
  split
  · exact k.setPort _
  · split
    · exact k.setPort _
    · exact k.setPort _

theorem Tidy.rsn (e : execRsn h s = .next t) : Tidy s t := by
  rw [← next_inj e]
  split
  · exact (Tidy.refl s).latchCommand _
  · exact .refl s

theorem Tidy.badCmd {code : Byte} (e : execBadCmd h code s = .next t) : Tidy s t := by
  rw [← next_inj e]
  split
  · exact (Tidy.refl s).latchCommand _
  · exact .refl s

theorem Tidy.prstAssertion (e : execPrstAssertion h s = .next t) : Tidy s t := by
  have k := Tidy.refl s
  rw [← next_inj e]
  split
  · exact k
  · dsimp only
    split
    · exact (k.setPort _).setWd _
    · split
      · exact (k.setPort _).setWd _
      · exact ((k.setPort _).setWd _).reevaluate

theorem Tidy.prstRelease (e : execPrstRelease h s = .next t) : Tidy s t := by
  have k := Tidy.refl s
  rw [← next_inj e]
  split
  · split
    · exact k.setPort _
    · exact k.setPort _
  · exact k

/-! ## The steps of a withdrawal (R161) -/

theorem Tidy.cutStep (k : Tidy o s) (w : Withdrawal) : Tidy o (s.cutStep h w) := by
  unfold State.cutStep
  split
  · exact k.setWd _
  · exact k.cutService

theorem Tidy.completeWithdrawal (k : Tidy o s) : Tidy o (s.completeWithdrawal h) := k.aside (by constructor <;> simp) (by simp)

theorem Steady.nextStep (s : State) (h : HostNo) (w : Withdrawal) : Steady s (s.nextStep h w) := by
  have k := Tidy.refl s
  have cuts : Tidy s (if s.servedHost = some h then s.cutStep h w else s.setWd h (some { w with step := .contexts })) := by
    split
    · exact k.cutStep w
    · exact k.setWd _
  unfold State.nextStep
  split
  · split
    · exact k.steady
    · exact k.beginDue.steady
  · exact cuts.steady
  · exact cuts.steady
  · exact (k.freeContexts.setWd _).reevaluate.steady
  · exact (Steady.withdrawWindows s h).then ((Tidy.refl _).setWd _)
  · have emptied : Tidy s (s.emptyQueue h) := k.setCq fun _ => Nat.zero_le _
    exact (emptied.setWd _).steady
  · exact (k.setWeight_rebuild (by decide)).completeWithdrawal.reevaluate.steady

theorem Steady.nextWithdrawalStep (e : execNextWithdrawalStep h s = .next t) : Steady s t := by
  rw [← next_inj e]
  split
  · exact .nextStep s h _
  · exact .refl s

/-! ## The arrivals on the bus and on the lines -/

theorem Tidy.grantArrival (e : execGrantArrival s = .next t) : Tidy s t := by
  have seen : Tidy s (s.setEngine { s.engine with lgnt := true }) := (Tidy.refl s).setEngine _
  rw [← next_inj e]
  split
  · exact (seen.pastLate .expiry).takeGrant
  · exact seen

theorem Tidy.grantWithdrawal (e : execGrantWithdrawal s = .next t) : Tidy s t := by
  have seen : Tidy s (s.setEngine { s.engine with lgnt := false }) := (Tidy.refl s).setEngine _
  rw [← next_inj e]
  split
  · exact seen
  · dsimp only
    split
    · exact seen.setEngine _
    · exact (seen.setEngine _).settleLoss

theorem Tidy.faultAnswer {code : FaultCode} (e : execFaultAnswer code s = .next t) : Tidy s t := by
  rw [← next_inj e]
  exact (Tidy.refl s).onBeat _ fun _ k => k.failBeat .fault

theorem Tidy.ackTimeout (e : execAckTimeout s = .next t) : Tidy s t := by
  rw [← next_inj e]
  split
  · exact (Tidy.refl s).onBeat _ fun _ k => k.failBeat .timeout
  · exact (Tidy.refl s).pastLate _

theorem Tidy.requestAsserted {n : LineNo} (e : execRequestObservedAsserted n s = .next t) : Tidy s t := by
  have seen : Tidy s (s.setLine n { s.line n with level := true }) := (Tidy.refl s).setLine _ _
  rw [← next_inj e]
  split
  · exact seen.reevaluate
  · exact seen

theorem Tidy.dropRequest (k : Tidy o s) (c : CtxNo) : Tidy o (s.dropRequest c) := by
  unfold State.dropRequest
  split
  · split
    · exact k.setEngine _
    · exact k
  · exact k

theorem Tidy.requestDeasserted {n : LineNo} (e : execRequestObservedDeasserted n s = .next t) : Tidy s t := by
  rw [← next_inj e]
  split
  · exact (((Tidy.refl s).setLine _ _).dropRequest _).reevaluate
  · exact (Tidy.refl s).setLine _ _

theorem Tidy.serviceCut (e : execServiceCut s = .next t) : Tidy s t := by
  have k := Tidy.refl s
  rw [← next_inj e]
  split
  · split
    · split
      · exact k.cutStep _
      · exact k
    · exact k
  · exact k

theorem Tidy.goOn (s : State) : Tidy s s.goOn := by
  have k := Tidy.refl s
  unfold State.goOn
  split
  · split
    · exact (k.pastLate .expiry).selectNow false
    · exact (k.pastLate .expiry).issueBeat
    · exact (k.pastLate .expiry).issueBeat
    · exact (k.pastLate .expiry).issueBeat
    · exact k
    · exact k
  · exact k

/-! ## Every command -/

/-- A command that its block takes is steady where its effect is. -/
theorem Steady.taken {cmd : Cmd} {run : List Byte → State → State × Reply} (runs : ∀ ps, Steady s (run ps s).1)
    (e : (Host.Outcome.next (s.take h cmd run) : Host.Outcome State Fault Refusal) = .next t) : Steady s t :=
  next_inj e ▸ Steady.take runs

/-- Every command but RESET is steady. -/
theorem Steady.exec {i : Instr} (unreset : i ≠ .reset) (e : exec i s = .next t) : Steady s t := by
  have k := Tidy.refl s
  cases i with
  | commandByte h b => exact (Tidy.commandByte e).steady
  | parameterByte h b => exact (Tidy.parameterByte e).steady
  | statusRead h => exact (Tidy.statusRead e).steady
  | responseRead h => exact (Tidy.responseRead e).steady
  | clm h => exact .taken (fun ps => (k.claim ps).steady) e
  | rel h => exact .taken (fun _ => (k.onCtx fun _ => k.setCtx _).steady) e
  | src h => exact .taken (fun _ => (k.onCtx fun _ => k.setPart _).steady) e
  | dst h => exact .taken (fun _ => (k.onCtx fun _ => k.setPart _).steady) e
  | cnt h => exact .taken (fun _ => (k.onCtx fun _ => k.setPart _).steady) e
  | mod h => exact .taken (fun _ => (k.onCtx fun _ => k.setPart _).steady) e
  | pat h => exact .taken (fun _ => (k.onCtx fun _ => k.setPart _).steady) e
  | lnk h => exact .taken (fun ps => (k.setLink ps).steady) e
  | sta h => exact .taken (fun ps => (k.start ps).steady) e
  | sus h => exact .taken (fun ps => (k.suspend ps).steady) e
  | rsm h => exact .taken (fun ps => (k.resume ps).steady) e
  | abt h => exact .taken (fun ps => (k.abort ps).steady) e
  | qry h => exact .taken (fun _ => (k.onCtx fun _ => k).steady) e
  | opw h => exact .taken Steady.openWindow e
  | clw h => exact .taken Steady.closeWindow e
  | qwn h => exact .taken (fun ps => (k.queryWindow ps).steady) e
  | wgt h => exact .taken (fun ps => (k.setOwnWeight ps).steady) e
  | tke h => exact .taken (fun ps => (k.takeRecord ps).steady) e
  | pek h => exact .taken (fun ps => (k.peekRecord ps).steady) e
  | rsn h => exact (Tidy.rsn e).steady
  | badCmd h code => exact (Tidy.badCmd e).steady
  | prstAssertion h => exact (Tidy.prstAssertion e).steady
  | prstRelease h => exact (Tidy.prstRelease e).steady
  | reset => exact absurd rfl unreset
  | grantArrival => exact (Tidy.grantArrival e).steady
  | grantWithdrawal => exact (Tidy.grantWithdrawal e).steady
  | beatAnswer a ld term => exact next_inj e ▸ Steady.beatAnswer a ld term
  | faultAnswer code => exact (Tidy.faultAnswer (code := code) e).steady
  | ackTimeout => exact (Tidy.ackTimeout e).steady
  | requestObservedAsserted n => exact (Tidy.requestAsserted e).steady
  | requestObservedDeasserted n => exact (Tidy.requestDeasserted e).steady
  | serviceCut => exact (Tidy.serviceCut e).steady
  | nextWithdrawalStep h => exact .nextWithdrawalStep e

/-- A step is steady, or it takes a RESET. -/
theorem Steady.step (e : step s = .next t) : Steady s t ∨ s.pending.head? = some .reset ∧ ∃ u : State, t = u.afterReset := by
  unfold Machine.step at e
  split at e
  · next i rest pending =>
    by_cases resets : i = .reset
    · subst resets
      exact .inr ⟨by rw [pending]; rfl, _, (next_inj e).symm⟩
    · obtain ⟨ring, queues, windows, inUse⟩ := Steady.exec resets e
      exact .inl ⟨ring, queues, windows, inUse⟩
  · rw [← next_inj e]
    exact .inl (Tidy.goOn s).steady

end

/-- Settles O52: a step is steady, and RESET leaves a ring of every host, windows CLOSED and queues empty. -/
theorem tablesStaySound : Obligations.TablesStaySound := by
  intro s t e
  rcases Steady.step e with steady | ⟨resets, u, rfl⟩
  · refine ⟨steady.ring, steady.windows, steady.queues, fun sound _ w used => ?_⟩
    obtain ⟨same, share⟩ := steady.inUse sound w used
    refine ⟨by rw [same], by rw [same], by rw [same], by rw [same], by rw [same], by rw [same], fun inUse => ?_⟩
    exact share.resolve_right fun closes => Nat.ne_of_gt inUse closes.2
  · exact ⟨fun _ => resetStateSound.ring, fun _ => resetStateSound.windows, fun _ => u.reset_core.queues,
      fun _ unreset => absurd resets unreset⟩

end Sys2Proof.Machine
end

section
/-! SUPPORT. A completing answer and its window (R79, R82, R83, R84, R88): what it teaches, and that on the data it is
the ANS answer of its width in the window so taught. -/

namespace Sys2Proof.Machine

/-- The ANS answer of a width (Table 4-4). -/
def ansOf (w : Width) : Answer := if w = .w8 then .ans8 else .ans16

theorem width_ansOf (w : Width) : (ansOf w).width = w := by cases w <;> rfl

theorem single_ansOf (w : Width) : (ansOf w).single = false := by cases w <;> rfl

/-- A window that an answer has taught has the width of that answer in force. -/
theorem Window.inForce_taught {x : Window} {a : Width} (fits : x.inForce = none ∨ x.inForce = some a) (cutShort : Bool) :
    (x.taught a cutShort).inForce = some a := by
  have declared : x.width ≠ .auto → x.inForce = some a → (x.taught a cutShort).inForce = some a := fun declared known => by
    rw [← known, Window.taught, if_neg fun auto => declared auto.1]
    rfl
  cases width : x.width with
  | w8 => exact declared (by simp [width]) (fits.resolve_left (by simp [Window.inForce, width]))
  | w16 => exact declared (by simp [width]) (fits.resolve_left (by simp [Window.inForce, width]))
  | auto =>
    have learns : x.inForce = x.learned := by rw [Window.inForce, width]
    rw [learns] at fits
    rcases fits with none | known
    · simp [Window.taught, Window.inForce, width, none]
    · simp [Window.taught, Window.inForce, width, known]

/-- With its width in force a window is taught nothing by a plain answer of it. -/
theorem Window.taught_known {x : Window} {a : Width} (known : x.inForce = some a) : x.taught a false = x := by
  have learned : ¬(x.width = .auto ∧ x.learned = none) := by
    rintro ⟨auto, none⟩
    simp [Window.inForce, auto, none] at known
  rw [Window.taught, if_neg learned, Bool.or_false]

theorem Service.cutBurst_false (v : Service) : v.cutBurst false = v := rfl

theorem Service.cutBurst_and (v : Service) (p q : Bool) :
    v.cutBurst (p && q) = { v with burst := if p = true ∧ q = true then 0 else v.burst } := by
  cases p <;> cases q <;> rfl

/-- The state with what may still arrive late replaced (R106). -/
def State.setRival (s : State) (r : Option Rival) : State := s.setEngine { s.engine with rival := r }

/-- The state with the window of the beat taught, and the burst ended where the answer cuts it short. -/
def State.taught (s : State) (v : Service) (b : Beat) (a : Answer) : State :=
  (s.setWindow (v.beatWindow b) ((s.window (v.beatWindow b)).taught a.width (a.single && b.inBurst))).setEngine
    { s.engine with service := some (v.cutBurst (a.single && b.inBurst)) }

section
variable {s : State} {v : Service} {b : Beat} {a : Answer}

theorem State.window_taught (s : State) (v : Service) (b : Beat) (a : Answer) :
    (s.taught v b a).window (v.beatWindow b) = (s.window (v.beatWindow b)).taught a.width (a.single && b.inBurst) :=
  State.window_setWindow_self ..

theorem State.window_noteAnswer (s : State) (v : Service) (b : Beat) (a : Answer) :
    (s.noteAnswer v b a).window (v.beatWindow b) = (s.window (v.beatWindow b)).taught a.width (a.single && b.inBurst) := by
  rw [State.noteAnswer_eq, State.window_setEngine, State.window_setWindow_self]

/-- The timer of a window is not taught (R105). -/
theorem State.rivalOf_taught (s : State) (v : Service) (b : Beat) (a : Answer) :
    (s.taught v b a).rivalOf (v.cutBurst (a.single && b.inBurst)) b .answer = s.rivalOf v b .answer := by
  rw [State.rivalOf_answer, State.rivalOf_answer]
  change (if ((s.taught v b a).window (v.beatWindow b)).ackLimit = 0 then _ else _) = _
  rw [State.window_taught]
  rfl

/-- The bus facts of the plain answer, noted in the window so taught, are those of the answer itself. -/
theorem State.noteAnswer_taught
    (fits : (s.window (v.beatWindow b)).inForce = none ∨ (s.window (v.beatWindow b)).inForce = some a.width) :
    (s.taught v b a).noteAnswer (v.cutBurst (a.single && b.inBurst)) b (ansOf a.width) = s.noteAnswer v b a := by
  rw [State.noteAnswer_eq, State.noteAnswer_eq, single_ansOf, width_ansOf, Bool.false_and, Service.cutBurst_false]
  change State.setEngine ((s.taught v b a).setWindow (v.beatWindow b)
    (((s.taught v b a).window (v.beatWindow b)).taught a.width false)) _ = _
  rw [State.window_taught, Window.taught_known (Window.inForce_taught fits _)]
  unfold State.taught State.setEngine State.setWindow
  simp only [Vector.set_set]

/-- A completing answer does what the plain answer of its width does in the window so taught. -/
theorem State.answerBeat_taught (service : s.engine.service = some v) (beat : s.engine.beat = some b)
    (fits : (s.window (v.beatWindow b)).inForce = none ∨ (s.window (v.beatWindow b)).inForce = some a.width) (ld : Half)
    (term : Bool) : s.answerBeat a ld term = (s.taught v b a).answerBeat (ansOf a.width) ld term := by
  have known : ((s.taught v b a).window (v.beatWindow b)).inForce = some (ansOf a.width).width := by
    rw [State.window_taught, width_ansOf]
    exact Window.inForce_taught fits _
  have plain := State.answerBeat_completes (s := s.taught v b a) (v := v.cutBurst (a.single && b.inBurst)) rfl beat (.inr known)
    ld term
  rw [State.answerBeat_completes service beat fits, plain, State.noteAnswer_taught fits, single_ansOf, width_ansOf,
    Bool.false_and, Service.cutBurst_false]
  rfl

/-- What a completing answer does after its bus facts is tidy. -/
theorem State.answerBeat_tidy (service : s.engine.service = some v) (beat : s.engine.beat = some b)
    (fits : (s.window (v.beatWindow b)).inForce = none ∨ (s.window (v.beatWindow b)).inForce = some a.width) (ld : Half)
    (term : Bool) : Tidy (s.noteAnswer v b a) (s.answerBeat a ld term) := by
  rw [State.answerBeat_completes service beat fits]
  exact (Tidy.refl _).answered _ b _ ld _

/-- What the rest of a step makes of a window that is not CLOSED (R45). -/
theorem Window.Recounted.live {x y : Window} (r : x.Recounted y) (live : x.state ≠ .closed) :
    (y.state ≠ .closed → y = { x with refs := y.refs }) ∧ (y.state = .closed → x.state = .orphan ∧ y.refs = 0) := by
  rcases r with ⟨same, -, -⟩ | ⟨orphan, closes⟩
  · refine ⟨fun _ => same, fun closed => ?_⟩
    rw [same] at closed
    exact absurd closed live
  · rw [closes]
    exact ⟨fun stays => absurd rfl stays, fun _ => ⟨orphan, rfl⟩⟩

/-- An answer that cannot be a late one is taken (R106). -/
theorem exec_beatAnswer_timely (service : s.engine.service = some v) (beat : s.engine.beat = some b)
    (timely : s.engine.rival ≠ some .answer) (a : Answer) (ld : Half) (term : Bool) :
    exec (.beatAnswer a ld term) s = .next ((s.setRival (s.rivalOf v b .answer)).answerBeat a ld term) :=
  congrArg Host.Outcome.next (State.onBeat_timely service beat timely _)

/-- A command that fails the beat in flight has a next state, and is tidy. -/
theorem State.failsWith_tidy {i : Instr} {k : Cause} (fails : s.failsWith i k) : ∃ t, exec i s = .next t ∧ Tidy s t := by
  obtain ⟨v, b, service, beat, cause⟩ := fails
  cases i with
  | beatAnswer a ld term =>
    obtain ⟨-, timely, known, other⟩ := cause
    refine ⟨_, exec_beatAnswer_timely service beat timely a ld term, ?_⟩
    rw [State.answerBeat_fails (s := s.setRival (s.rivalOf v b .answer)) service beat known other]
    exact ((Tidy.refl s).setEngine _).failBeat _
  | faultAnswer code => exact ⟨_, rfl, Tidy.faultAnswer (code := code) rfl⟩
  | ackTimeout => exact ⟨_, rfl, Tidy.ackTimeout rfl⟩
  | _ => exact cause.elim

end

/-- Settles O44: an answer that completes notes its bus facts and is then tidy; a beat that fails is tidy from the start. -/
theorem answersTeachWindow : Obligations.AnswersTeachWindow := by
  intro s v b w service beat names live
  subst names
  refine ⟨fun a ld term timely fits => ?_, fun i k fails => ?_⟩
  · have answered := exec_beatAnswer_timely service beat timely a ld term
    have tidy := State.answerBeat_tidy (s := s.setRival (s.rivalOf v b .answer)) service beat fits ld term
    have kept := tidy.windows (v.beatWindow b)
    rw [State.window_noteAnswer] at kept
    obtain ⟨stays, closes⟩ := kept.live live
    refine ⟨_, _, rfl, ?_, answered, stays, closes⟩
    calc
      exec (.beatAnswer a ld term) s = exec (.beatAnswer (ansOf a.width) ld term) (s.taught v b a) := by
        rw [answered, exec_beatAnswer_timely (s := s.taught v b a) rfl beat timely, State.rivalOf_taught,
          State.answerBeat_taught (s := s.setRival (s.rivalOf v b .answer)) service beat fits]
        rfl
      _ = _ := by rw [State.taught, Service.cutBurst_and]; rfl
  · obtain ⟨t, taken, tidy⟩ := State.failsWith_tidy fails
    exact ⟨t, taken, (tidy.windows _).live live⟩

end Sys2Proof.Machine
end

section
/-! SUPPORT. The Scheduler's small statements (chapter 3): the weight (R56 to R58), the slots that the weights give (R57), and which
contexts are eligible (R52, R62, R64). -/

namespace Sys2Proof.Machine

-- One proof at a time: proofs elaborated side by side need more threads than the memory limit of the check leaves room for.
set_option Elab.async false

/-! ## The weight (R56, R58) -/

/-- Settles O30: a weight out of range is refused, the present one answers OK, and another is written with a new ring. -/
theorem weightSet : Obligations.WeightSet := by
  unfold Obligations.WeightSet
  intro s h b given
  have answers : ∀ {t : State} {bytes : List Byte}, State.setOwnWeight h [b] s = (t, .answer bytes) → t.port h = s.port h →
      exec (.wgt h) s = .next (t.completed h bytes) :=
    fun answer port => congrArg Host.Outcome.next (State.take_answers given answer port)
  refine ⟨fun outside => ?_, fun least most present => ?_, fun least most other => ?_⟩
  · have refused : b.toNat = 0 ∨ 4 < b.toNat := outside.imp_left fun zero => by rw [zero]; rfl
    refine answers ?_ rfl
    rw [State.setOwnWeight, param_zero, if_pos refused]
    rfl
  · refine answers ?_ rfl
    rw [State.setOwnWeight, param_zero, if_neg (by omega), if_pos present]
    rfl
  · refine answers ?_ rfl
    rw [State.setOwnWeight, param_zero, if_neg (by omega), if_neg other]
    rfl

/-! ## The host ring (R57) -/

/-- The slots of round `r`: the hosts whose weight reaches it, in order. -/
def ringRound (weights : Vector Nat 4) (r : Nat) : List HostNo := hosts.filter fun h => r ≤ weights[h.val]

/-- The slots of the rounds 1 to `n`. -/
def ringRounds (weights : Vector Nat 4) : Nat → List HostNo
  | 0 => []
  | n + 1 => ringRounds weights n ++ ringRound weights (n + 1)

theorem ringOf_eq_rounds (weights : Vector Nat 4) : ringOf weights = ringRounds weights 4 := by
  simp [ringOf, ringRounds, ringRound]

/-- The slots are ordered by round and, in a round, by host: the slots of its host before a slot give its round. -/
def SlotsOrdered (l : List HostNo) : Prop :=
  ∀ (i j : Nat) (g h : HostNo), i < j → l[i]? = some g → l[j]? = some h →
    (l.take i).count g < (l.take j).count h ∨ (l.take i).count g = (l.take j).count h ∧ g < h

section
variable (weights : Vector Nat 4)

theorem hosts_increasing : hosts.Pairwise (· < ·) := by decide

theorem mem_hosts (h : HostNo) : h ∈ hosts := by revert h; decide

theorem ringRound_increasing (r : Nat) : (ringRound weights r).Pairwise (· < ·) := hosts_increasing.filter _

theorem mem_ringRound {r : Nat} {h : HostNo} : h ∈ ringRound weights r ↔ r ≤ weights[h.val] := by
  simp [ringRound, mem_hosts]

theorem count_ringRound (r : Nat) (h : HostNo) : (ringRound weights r).count h = if r ≤ weights[h.val] then 1 else 0 := by
  split
  · next reached =>
    exact List.count_eq_one_of_mem (ringRound_increasing weights r).nodup ((mem_ringRound weights).2 reached)
  · next short => exact List.count_eq_zero.2 fun on => short ((mem_ringRound weights).1 on)

/-- Each of the first rounds holds a host once, as long as its weight reaches. -/
theorem count_ringRounds (h : HostNo) : ∀ n, (ringRounds weights n).count h = min n weights[h.val]
  | 0 => by simp [ringRounds]
  | n + 1 => by
    rw [ringRounds, List.count_append, count_ringRounds h n, count_ringRound]
    split <;> omega

/-- A slot's host has no slot before it in the same round. -/
theorem count_take_ringRound {r i : Nat} {h : HostNo} (at' : (ringRound weights r)[i]? = some h) :
    ((ringRound weights r).take i).count h = 0 := by
  rw [List.count_eq_zero, List.mem_take_iff_getElem]
  rintro ⟨k, bound, same⟩
  obtain ⟨within, here⟩ := List.getElem?_eq_some_iff.1 at'
  have less := List.pairwise_iff_getElem.1 (ringRound_increasing weights r) k i (by omega) within (by omega)
  rw [same, here] at less
  exact lt_irrefl h less

/-- The slots of its host before a slot of the last round are those of the rounds before. -/
theorem count_take_lastRound {n i : Nat} {h : HostNo} (late : (ringRounds weights n).length ≤ i)
    (at' : (ringRounds weights (n + 1))[i]? = some h) : ((ringRounds weights (n + 1)).take i).count h = n := by
  rw [ringRounds, List.getElem?_append_right late] at at'
  have reached := (mem_ringRound weights).1 (List.mem_of_getElem? at')
  rw [ringRounds, List.take_append, List.take_of_length_le late, List.count_append, count_ringRounds,
    count_take_ringRound weights at']
  omega

theorem ringRounds_ordered : ∀ n, SlotsOrdered (ringRounds weights n)
  | 0 => by simp [SlotsOrdered, ringRounds]
  | n + 1 => by
    intro i j g h before atI atJ
    by_cases late : (ringRounds weights n).length ≤ i
    · rw [count_take_lastRound weights late atI, count_take_lastRound weights (by omega) atJ]
      rw [ringRounds, List.getElem?_append_right (by omega)] at atI atJ
      obtain ⟨boundI, slotI⟩ := List.getElem?_eq_some_iff.1 atI
      obtain ⟨boundJ, slotJ⟩ := List.getElem?_eq_some_iff.1 atJ
      have less := List.pairwise_iff_getElem.1 (ringRound_increasing weights (n + 1)) _ _ boundI boundJ (by omega)
      rw [slotI, slotJ] at less
      exact .inr ⟨rfl, less⟩
    · have early : i < (ringRounds weights n).length := Nat.lt_of_not_le late
      have takeI : (ringRounds weights (n + 1)).take i = (ringRounds weights n).take i :=
        List.take_append_of_le_length early.le
      rw [ringRounds, List.getElem?_append_left early] at atI
      by_cases lateJ : (ringRounds weights n).length ≤ j
      · have more : ((ringRounds weights n).take i).count g + 1 ≤ (ringRounds weights n).count g := by
          obtain ⟨bound, slot⟩ := List.getElem?_eq_some_iff.1 atI
          calc
            _ = ((ringRounds weights n).take (i + 1)).count g := by
              rw [List.take_succ_eq_append_getElem bound, slot, List.count_append, List.count_singleton_self]
            _ ≤ _ := (List.take_sublist _ _).count_le g
        rw [count_take_lastRound weights lateJ atJ, takeI]
        rw [count_ringRounds] at more
        omega
      · have earlyJ : j < (ringRounds weights n).length := Nat.lt_of_not_le lateJ
        rw [ringRounds, List.getElem?_append_left earlyJ] at atJ
        rw [takeI, ringRounds, List.take_append_of_le_length earlyJ.le]
        exact ringRounds_ordered n i j g h before atI atJ

theorem length_eq_sum_count (l : List HostNo) : l.length = l.count 0 + l.count 1 + l.count 2 + l.count 3 := by
  rw [← Fin.sum_univ_four fun h : HostNo => l.count h]
  simpa using (Multiset.sum_count_eq_card (s := Finset.univ) (m := (l : Multiset HostNo)) fun h _ => Finset.mem_univ h).symm

end

/-- A ring of legal weights holds every host as often as its weight. -/
theorem count_ringOf {weights : Vector Nat 4} {h : HostNo} (most : weights[h.val] ≤ 4) :
    (ringOf weights).count h = weights[h.val] := by
  rw [ringOf_eq_rounds, count_ringRounds, Nat.min_eq_right most]

/-- Settles O31: the ring is four rounds, each of the hosts whose weight reaches it. -/
theorem ringFollowsWeights : Obligations.RingFollowsWeights := by
  unfold Obligations.RingFollowsWeights
  intro weights legal
  have counts : ∀ h : HostNo, (ringOf weights).count h = weights[h.val] := fun h => count_ringOf (legal h).2
  refine ⟨?_, counts, ?_⟩
  · rw [length_eq_sum_count, counts, counts, counts, counts]
    rfl
  · rw [ringOf_eq_rounds]
    exact ringRounds_ordered weights 4

/-! ## Eligibility and work present (R52, R62, R64, R92) -/

theorem State.inWithdrawal_iff (s : State) (h : HostNo) :
    s.inWithdrawal h = false ↔ ∀ w, s.wd h = some w → w.step = .begin := by
  unfold State.inWithdrawal
  cases s.wd h <;> simp

theorem State.mem_eligible_iff (s : State) (h : HostNo) (c : CtxNo) :
    c ∈ s.eligible h ↔ c ∈ s.readyList h ∧ (∀ w, s.wd h = some w → w.step = .begin) ∧ s.triggerReady c = true := by
  rw [State.eligible, ← State.inWithdrawal_iff]
  cases s.inWithdrawal h <;> simp

theorem State.anyEligible_iff (s : State) : s.anyEligible = true ↔ ∃ h c, c ∈ s.eligible h := by
  simp [State.anyEligible, mem_hosts, List.eq_nil_iff_forall_not_mem]

theorem State.eligible_sublist (s : State) (h : HostNo) : (s.eligible h).Sublist (s.readyList h) := by
  unfold State.eligible
  split
  · exact List.nil_sublist _
  · exact List.filter_sublist

/-- The engine after a re-evaluation: it asks for the bus, or gives its request up (R92). -/
def Engine.reasked (e : Engine) (eligible : Bool) : Engine :=
  if e.state = .idle ∧ eligible = true then { e with state := .asking, lreq := true }
  else if e.state = .asking ∧ eligible = false ∧ e.lown = false then { e with state := .idle, lreq := false }
  else e

theorem State.reevaluate_eq (s : State) : s.reevaluate = (s.setWork s.anyEligible).setEngine (s.engine.reasked s.anyEligible) := by
  unfold State.reevaluate Engine.reasked
  cases state : s.engine.state with
  | idle =>
    simp only [true_and]
    split <;> rfl
  | asking =>
    have gives : (!s.anyEligible && !s.engine.lown) = true ↔ s.anyEligible = false ∧ s.engine.lown = false := by simp
    simp only [gives, reduceCtorEq, false_and, true_and, if_false]
    split <;> rfl
  | _ => simp; rfl

/-- Settles O32: eligibility read off its definition, and the re-evaluation by the state of the engine. -/
theorem workPresentFollowsEligibility : Obligations.WorkPresentFollowsEligibility := by
  unfold Obligations.WorkPresentFollowsEligibility
  intro s
  refine ⟨fun h c => ?_, s.eligible_sublist, s.anyEligible_iff, s.reevaluate_eq⟩
  rw [State.mem_eligible_iff, State.triggerReady]
  cases (s.ctx c).trigger with
  | soft => simp
  | line n side pacing => cases pacing <;> simp

/-! ## The selection (R54, R59) -/

/-- The first of the numbers below `n` at which `f` finds something. -/
theorem findSome?_range_eq_some {β : Type} (f : Nat → Option β) (b : β) :
    ∀ n, (List.range n).findSome? f = some b ↔ ∃ k, k < n ∧ f k = some b ∧ ∀ j, j < k → f j = none
  | 0 => by simp
  | n + 1 => by
    rw [List.range_succ, List.findSome?_append, Option.or_eq_some_iff, findSome?_range_eq_some f b n,
      List.findSome?_eq_none_iff, List.findSome?_singleton]
    simp only [List.mem_range]
    constructor
    · rintro (⟨k, below, found⟩ | ⟨before, found⟩)
      · exact ⟨k, below.trans (Nat.lt_succ_self n), found⟩
      · exact ⟨n, Nat.lt_succ_self n, found, before⟩
    · rintro ⟨k, below, found, before⟩
      rcases Nat.lt_succ_iff_lt_or_eq.1 below with early | rfl
      · exact .inl ⟨k, early, found, before⟩
      · exact .inr ⟨before, found⟩

theorem State.mostUrgent_eq_none (s : State) (l : List CtxNo) : s.mostUrgent l = none ↔ l = [] := by
  cases l with
  | nil => simp [State.mostUrgent]
  | cons c l =>
    rw [State.mostUrgent]
    split
    · split <;> simp
    · simp

/-- The most urgent context stands behind less urgent ones alone, and before none that is more urgent (R54). -/
theorem State.mostUrgent_eq_some (s : State) (c : CtxNo) : ∀ l : List CtxNo, s.mostUrgent l = some c ↔
    ∃ before after, l = before ++ c :: after ∧ (∀ d ∈ before, (s.ctx c).priority < (s.ctx d).priority) ∧
      ∀ d ∈ after, (s.ctx c).priority ≤ (s.ctx d).priority
  | [] => by simp [State.mostUrgent]
  | a :: l => by
    constructor
    · intro urgent
      rw [State.mostUrgent] at urgent
      split at urgent
      · next d found =>
        obtain ⟨before, after, rfl, less, most⟩ := (s.mostUrgent_eq_some d l).1 found
        split at urgent
        · next more =>
          cases urgent
          exact ⟨a :: before, after, rfl, List.forall_mem_cons.2 ⟨more, less⟩, most⟩
        · next first =>
          cases urgent
          refine ⟨[], _, rfl, nofun, fun x on => (not_lt.1 first).trans ?_⟩
          exact (s.mostUrgent_spec _ _ found).2 x on
      · next none =>
        cases urgent
        rw [(s.mostUrgent_eq_none l).1 none]
        exact ⟨[], [], rfl, nofun, nofun⟩
    · rintro ⟨before, after, list, less, most⟩
      rw [State.mostUrgent]
      cases before with
      | nil =>
        obtain ⟨rfl, rfl⟩ := List.cons.inj list
        split
        · next d found => rw [if_neg (not_lt.2 (most d (s.mostUrgent_spec _ _ found).1))]
        · rfl
      | cons b before =>
        obtain ⟨rfl, rest⟩ := List.cons.inj list
        obtain ⟨more, less⟩ := List.forall_mem_cons.1 less
        rw [(s.mostUrgent_eq_some c l).2 ⟨before, after, rest, less, most⟩]
        exact if_pos more

theorem State.atSlot_eq_some (s : State) (n slot : Nat) (c : CtxNo) :
    s.atSlot n = some (slot, c) ↔ slot = n ∧ ∃ h, s.sched.ring[n]? = some h ∧ s.mostUrgent (s.eligible h) = some c := by
  unfold State.atSlot
  cases s.sched.ring[n]? with
  | none => simp
  | some h => simp [and_comm, eq_comm]

theorem State.atSlot_eq_none (s : State) (n : Nat) :
    s.atSlot n = none ↔ ∀ h, s.sched.ring[n]? = some h → s.eligible h = [] := by
  unfold State.atSlot
  cases s.sched.ring[n]? with
  | none => simp
  | some h => simp [State.mostUrgent_eq_none]

/-- The slots are examined from the pointer on. -/
theorem State.choose_eq (s : State) : s.choose =
    (List.range s.sched.ring.length).findSome? fun k => s.atSlot ((s.sched.pointer + k) % s.sched.ring.length) := by
  rw [State.choose, State.slotOrder, List.findSome?_map]
  rfl

/-- Counting around a ring of `n` slots from any of them comes to each. -/
theorem exists_ring_offset {n p i : Nat} (pointer : p < n) (slot : i < n) : ∃ k, k < n ∧ (p + k) % n = i := by
  by_cases ahead : p ≤ i
  · exact ⟨i - p, by omega, by rw [Nat.add_sub_cancel' ahead, Nat.mod_eq_of_lt slot]⟩
  · refine ⟨n - p + i, by omega, ?_⟩
    rw [show p + (n - p + i) = i + n by omega, Nat.add_mod_right, Nat.mod_eq_of_lt slot]

/-- A sound ring has a slot of every host (R55, R57). -/
theorem State.ringSound.slot {s : State} (sound : s.ringSound) (h : HostNo) : ∃ i : Nat, s.sched.ring[i]? = some h := by
  obtain ⟨legal, given, -⟩ := sound
  have counted : s.sched.ring.count h = s.weight h := by rw [given]; exact count_ringOf (legal h).2
  exact List.mem_iff_getElem?.1 (List.count_pos_iff.1 (by rw [counted]; exact (legal h).1))

/-- Settles O33: the slots from the pointer on are those of the ring, each once, and at each the most urgent context is taken. -/
theorem selectionChooses : Obligations.SelectionChooses := by
  unfold Obligations.SelectionChooses
  intro s sound
  refine ⟨fun slot c => ?_, ?_⟩
  · simp only [State.choose_eq, findSome?_range_eq_some, State.atSlot_eq_some, State.atSlot_eq_none, State.mostUrgent_eq_some]
    constructor
    · rintro ⟨k, within, ⟨rfl, h, host, before, after, list⟩, earlier⟩
      exact ⟨k, h, before, after, within, rfl, host, fun j g sooner => earlier j sooner g, list⟩
    · rintro ⟨k, h, before, after, within, rfl, host, earlier, list⟩
      exact ⟨k, within, ⟨rfl, h, host, before, after, list⟩, fun j sooner g => earlier j g sooner⟩
  · rw [State.choose_eq, List.findSome?_eq_none_iff]
    simp only [List.mem_range, State.atSlot_eq_none]
    refine ⟨fun none h => ?_, fun none _ _ h _ => none h⟩
    obtain ⟨i, host⟩ := sound.slot h
    obtain ⟨k, within, here⟩ := exists_ring_offset sound.2.2 (List.getElem?_eq_some_iff.1 host).1
    exact none k within h (by rw [here]; exact host)

end Sys2Proof.Machine
end

section
/-! SUPPORT. Work present, and the commands that wait, over the acts of a step. `Heeds n L o s` says that a state `s` in the middle of
a step that began in `o` has the commands that wait as they were, at most `n` free choices made, and work present true to the lists
if it was true in `o`. An act either is one that the Scheduler does not see, or ends in a re-evaluation, which makes work present
true whatever came before it (R62, R92). `L` stands for what the statements suppose of the tables at the beginning of the step. -/

namespace Sys2Proof.Machine

-- One proof at a time: proofs elaborated side by side need more threads than the memory limit of the check leaves room for.
set_option Elab.async false

/-! ## Acts that the Scheduler does not see -/

/-- An act that the Scheduler does not see: eligibility is as it was, and the engine has not come to ask or to rest. -/
structure Unseen (s t : State) : Prop where
  work : t.sched.work = s.sched.work
  eligible : ∀ h, t.eligible h = s.eligible h
  asks : t.engine.state.serving = true ∨ t.engine.state = s.engine.state ∧ (t.engine.lown = false → s.engine.lown = false)

theorem State.anyEligible_congr {s t : State} (same : ∀ h, t.eligible h = s.eligible h) : t.anyEligible = s.anyEligible := by
  simp only [State.anyEligible, same]

theorem Unseen.workSound {s t : State} (u : Unseen s t) (sound : s.workSound) : t.workSound := by
  obtain ⟨work, idle, asking⟩ := sound
  rw [State.workSound, u.work, State.anyEligible_congr u.eligible]
  refine ⟨work, fun rests => ?_, fun asks free => ?_⟩
  · rcases u.asks with serves | ⟨same, -⟩
    · rw [rests] at serves; cases serves
    · exact idle (same ▸ rests)
  · rcases u.asks with serves | ⟨same, own⟩
    · rw [asks] at serves; cases serves
    · exact asking (same ▸ asks) (own free)

/-- Eligibility rests on the ready lists, the withdrawals, and the triggers of the listed contexts (R52, R64). -/
theorem State.eligible_congr {s t : State} {h : HostNo} (ready : t.readyList h = s.readyList h)
    (stays : t.inWithdrawal h = s.inWithdrawal h) (trigger : ∀ c ∈ s.readyList h, t.triggerReady c = s.triggerReady c) :
    t.eligible h = s.eligible h := by
  rw [State.eligible, State.eligible, ready, stays, List.filter_congr trigger]

/-- A context record is written, which keeps its trigger or stands on no ready list. -/
theorem Unseen.setCtx (s : State) {c : CtxNo} {x : Ctx} (same : x.trigger = (s.ctx c).trigger ∨ ∀ h, c ∉ s.readyList h) :
    Unseen s (s.setCtx c x) where
  work := rfl
  eligible h := State.eligible_congr rfl rfl fun d listed => by
    have trigger : ((s.setCtx c x).ctx d).trigger = (s.ctx d).trigger := by
      rw [State.ctx_setCtx]
      split
      · next is => rw [same.resolve_right fun off => off h (is ▸ listed), is]
      · rfl
    rw [State.triggerReady, State.triggerReady, trigger]
    rfl
  asks := .inr ⟨rfl, id⟩

/-- A line is written that no listed context waits for. -/
theorem Unseen.setLine {s : State} {n : LineNo} (x : Line)
    (apart : ∀ h c, c ∈ s.readyList h → (s.ctx c).trigger.lineNo ≠ some n) : Unseen s (s.setLine n x) where
  work := rfl
  eligible h := State.eligible_congr rfl rfl fun c listed => by
    have other := apart h c listed
    unfold State.triggerReady
    rw [State.ctx_setLine]
    cases trigger : (s.ctx c).trigger with
    | soft => rfl
    | line m side pacing =>
      rw [trigger] at other
      have line : (s.setLine n x).line m = s.line m := State.line_setLine_ne _ _ _ _ fun same => other (congrArg some same)
      cases pacing <;> simp only [line]
  asks := .inr ⟨rfl, id⟩

/-- The engine is written with the state it has, and no bus given up. -/
theorem Unseen.setEngine (s : State) {e : Engine}
    (asks : e.state.serving = true ∨ e.state = s.engine.state ∧ (e.lown = false → s.engine.lown = false)) :
    Unseen s (s.setEngine e) :=
  ⟨rfl, fun _ => rfl, asks⟩

/-- A withdrawal goes on, and has begun or not as before (R64). -/
theorem Unseen.setWd {s : State} {h : HostNo} {x : Option Withdrawal} (stays : (s.setWd h x).inWithdrawal h = s.inWithdrawal h) :
    Unseen s (s.setWd h x) where
  work := rfl
  eligible g := State.eligible_congr rfl (by
    by_cases same : g = h
    · rw [same]; exact stays
    · rw [State.inWithdrawal, State.inWithdrawal, State.wd_setWd_ne _ _ _ _ same]) fun _ _ => rfl
  asks := .inr ⟨rfl, id⟩

/-- A withdrawal that has begun goes on to a later step. -/
theorem Unseen.withdrawalGoesOn {s : State} {h : HostNo} {w y : Withdrawal} (withdraws : s.wd h = some w)
    (same : w.step = .begin ↔ y.step = .begin) : Unseen s (s.setWd h (some y)) :=
  .setWd (by simp [State.inWithdrawal, withdraws, same])

theorem Unseen.issueBeat (s : State) : Unseen s s.issueBeat := by
  unfold State.issueBeat
  split
  · exact ⟨rfl, fun _ => rfl, .inr ⟨rfl, id⟩⟩
  · exact .setEngine s (.inr ⟨rfl, id⟩)

/-! ## Acts after which work present is true -/

/-- The re-evaluation makes work present true, and the request with it, in every state (R62, R92). -/
theorem State.workSound_reevaluate (s : State) : s.reevaluate.workSound := by
  have same : s.reevaluate.anyEligible = s.anyEligible := by rw [State.reevaluate_eq]; rfl
  rw [State.workSound, same, State.reevaluate_eq]
  refine ⟨rfl, ?_⟩
  rw [State.engine_setEngine, Engine.reasked]
  split
  · next asks => exact ⟨nofun, fun _ _ => asks.2⟩
  · next rests =>
    split
    · next gives => exact ⟨fun _ => gives.2.1, nofun⟩
    · next stays =>
      refine ⟨fun idle => ?_, fun asking free => ?_⟩
      · exact Bool.eq_false_iff.2 fun eligible => rests ⟨idle, eligible⟩
      · exact Bool.eq_true_of_not_eq_false fun none => stays ⟨asking, none, free⟩

theorem State.workSound_selectNow (s : State) (strobe : Bool) : (s.selectNow strobe).workSound := by
  unfold State.selectNow
  split
  · exact State.workSound_reevaluate _
  · exact State.workSound_reevaluate _

theorem State.workSound_select (s : State) : s.select.workSound := by
  rcases s.select_cases with waits | ⟨strobe, now⟩
  · rw [waits]; exact State.workSound_reevaluate _
  · rw [now]; exact State.workSound_selectNow _ strobe

theorem State.workSound_leaveBus (s : State) : s.leaveBus.workSound := by
  rw [State.leaveBus_eq]
  split
  · next regranted =>
    rw [State.takeGrant_asking (State.busLeft_asking (Bool.and_eq_true_iff.1 regranted).2)]
    exact State.workSound_select _
  · exact State.workSound_reevaluate _

theorem State.workSound_afterService (s : State) : s.afterService.workSound := by
  rw [State.afterService_eq]
  split
  · exact s.workSound_select
  · exact s.workSound_leaveBus

/-- A grant is taken by a selection, or by a service. -/
theorem State.workSound_takeGrant {s : State} (sound : s.workSound) : s.takeGrant.workSound := by
  have owned : (s.setEngine { s.engine with lown := true }).workSound := by
    refine (Unseen.setEngine s (.inr ⟨?_, ?_⟩)).workSound sound
    · rfl
    · nofun
  unfold State.takeGrant
  dsimp only
  split
  · exact State.workSound_select _
  · split
    · next v _ =>
      refine (Unseen.issueBeat _).workSound ((Unseen.setEngine _ (.inl ?_)).workSound owned)
      cases v.pinEnding <;> rfl
    · exact owned
  · exact owned

/-! ## What an act heeds -/

/-- What a step that began in `o` has kept so far of the commands that wait and of work present, with at most `n` free choices. -/
structure Heeds (n : Nat) (L : Prop) (o s : State) : Prop where
  pending : s.pending = o.pending
  least : o.choices ≤ s.choices
  most : s.choices ≤ o.choices + n
  work : L → o.workSound → s.workSound

theorem Heeds.refl (L : Prop) (s : State) : Heeds 0 L s s := ⟨rfl, Nat.le_refl _, Nat.le_refl _, fun _ => id⟩

section
variable {n m : Nat} {L : Prop} {o s t : State} {c : CtxNo} {h : HostNo}

theorem Heeds.mono (k : Heeds n L o s) (more : n ≤ m) : Heeds m L o s :=
  ⟨k.pending, k.least, k.most.trans (Nat.add_le_add_left more _), k.work⟩

/-- An act that makes no free choice, and leaves work present true where it was. -/
theorem Heeds.act (k : Heeds n L o s) (pending : t.pending = s.pending) (choices : t.choices = s.choices)
    (work : L → s.workSound → t.workSound) : Heeds n L o t :=
  ⟨pending.trans k.pending, choices ▸ k.least, choices ▸ k.most, fun sound before => work sound (k.work sound before)⟩

/-- Whatever the act, the re-evaluation after it makes work present true. -/
theorem Heeds.reevaluate (k : Heeds n L o s) (pending : t.pending = s.pending) (choices : t.choices = s.choices) :
    Heeds n L o t.reevaluate :=
  k.act (by simpa using pending) (by simpa using choices) fun _ _ => t.workSound_reevaluate

/-- So does the selection, or the leaving of the bus, at the end of a service (log 7). -/
theorem Heeds.afterService (k : Heeds n L o s) (pending : t.pending = s.pending) (choices : t.choices = s.choices) :
    Heeds (n + 1) L o t.afterService := by
  obtain ⟨least, most⟩ := State.choices_afterService t
  have before := k.least
  have within := k.most
  exact ⟨by rw [State.pending_afterService, pending, k.pending], by omega, by omega, fun _ _ => t.workSound_afterService⟩

theorem Heeds.leaveBus (k : Heeds n L o s) (pending : t.pending = s.pending) (choices : t.choices = s.choices) :
    Heeds (n + 1) L o t.leaveBus := by
  obtain ⟨least, most⟩ := State.choices_leaveBus t
  have before := k.least
  have within := k.most
  exact ⟨by rw [State.pending_leaveBus, pending, k.pending], by omega, by omega, fun _ _ => t.workSound_leaveBus⟩

theorem Heeds.takeGrant (k : Heeds n L o s) : Heeds (n + 1) L o s.takeGrant := by
  obtain ⟨least, most⟩ := State.choices_takeGrant s
  have before := k.least
  have within := k.most
  exact ⟨by rw [State.pending_takeGrant, k.pending], by omega, by omega,
    fun sound before => State.workSound_takeGrant (k.work sound before)⟩

/-- A free choice is counted (log 6, 7, 28, 30). -/
theorem Heeds.countChoice (k : Heeds n L o s) : Heeds (n + 1) L o s.countChoice := by
  have before := k.least
  have within := k.most
  exact ⟨k.pending, by rw [State.choices_countChoice]; omega, by rw [State.choices_countChoice]; omega, k.work⟩

theorem Heeds.unseen (k : Heeds n L o s) (pending : t.pending = s.pending) (choices : t.choices = s.choices) (u : Unseen s t) :
    Heeds n L o t :=
  k.act pending choices fun _ => u.workSound

theorem Heeds.setCtx (k : Heeds n L o s) {x : Ctx} (same : x.trigger = (s.ctx c).trigger := by rfl) : Heeds n L o (s.setCtx c x) :=
  k.unseen rfl rfl (.setCtx s (.inl same))

/-- The engine is written, but for its state and the bus. -/
theorem Heeds.setEngine (k : Heeds n L o s) {e : Engine} (state : e.state = s.engine.state := by rfl)
    (own : e.lown = s.engine.lown := by rfl) : Heeds n L o (s.setEngine e) :=
  k.unseen rfl rfl (.setEngine s (.inr ⟨state, fun free => own ▸ free⟩))

/-- The engine comes to serve. -/
theorem Heeds.serve (k : Heeds n L o s) {e : Engine} (serves : e.state.serving = true := by rfl) : Heeds n L o (s.setEngine e) :=
  k.unseen rfl rfl (.setEngine s (.inl serves))

theorem Heeds.setPort (k : Heeds n L o s) (p : Port) : Heeds n L o (s.setPort h p) :=
  k.unseen rfl rfl ⟨rfl, fun _ => rfl, .inr ⟨rfl, id⟩⟩

theorem Heeds.setWindow (k : Heeds n L o s) (u : WinNo) (x : Window) : Heeds n L o (s.setWindow u x) :=
  k.unseen rfl rfl ⟨rfl, fun _ => rfl, .inr ⟨rfl, id⟩⟩

theorem Heeds.setCq (k : Heeds n L o s) (q : Cq) : Heeds n L o (s.setCq h q) :=
  k.unseen rfl rfl ⟨rfl, fun _ => rfl, .inr ⟨rfl, id⟩⟩

theorem Heeds.withdrawalGoesOn (k : Heeds n L o s) {w y : Withdrawal} (withdraws : s.wd h = some w)
    (same : w.step = .begin ↔ y.step = .begin) : Heeds n L o (s.setWd h (some y)) :=
  k.unseen rfl rfl (.withdrawalGoesOn withdraws same)

theorem Heeds.pastLate (k : Heeds n L o s) (r : Rival) : Heeds n L o (s.pastLate r) := k.setEngine

theorem Heeds.issueBeat (k : Heeds n L o s) : Heeds n L o s.issueBeat := k.unseen (by simp) (by simp) (.issueBeat s)

theorem Heeds.selectNow (k : Heeds n L o s) (strobe : Bool) : Heeds n L o (s.selectNow strobe) :=
  k.act (by simp) (by simp) fun _ _ => s.workSound_selectNow strobe

/-! ## The end of a service, and the loss of the grant (chapters 4 and 5) -/

theorem Heeds.endService (k : Heeds n L o s) : Heeds (n + 2) L o s.endService := by
  unfold State.endService
  split
  · exact k.mono (by omega)
  · next v _ =>
    dsimp only
    split
    · exact (k.afterService (by simp) (by simp)).mono (by omega)
    · next e _ =>
      split
      · exact (k.afterService (by simp) (by simp)).mono (by omega)
      · split
        · have selected : Heeds (n + 1 + 1) L o s.dropService.movePointer.countChoice.afterService :=
            k.countChoice.afterService (by simp) (by simp)
          exact selected.reevaluate (by simp) (by simp)
        · exact k.countChoice.afterService (by simp) (by simp)

theorem Heeds.cutService (k : Heeds n L o s) : Heeds (n + 2) L o (s.cutService h) := by
  unfold State.cutService
  split
  · exact k.mono (by omega)
  · dsimp only
    split
    · exact (k.afterService (by simp) (by simp)).mono (by omega)
    · exact (k.afterService (by simp) (by simp)).mono (by omega)

theorem Heeds.pinnedAbort (k : Heeds n L o s) : Heeds (n + 2) L o s.pinnedAbort := by
  unfold State.pinnedAbort
  split
  · exact k.mono (by omega)
  · exact (k.setEngine).endService

theorem Heeds.discardPartial (k : Heeds n L o s) : Heeds n L o s.discardPartial := by
  unfold State.discardPartial
  split
  · exact k
  · split
    · exact k.setEngine
    · exact k

theorem Heeds.afterPin (k : Heeds n L o s) (v : Service) (g : GrantLoss) : Heeds (n + 3) L o (s.afterPin v g) := by
  unfold State.afterPin
  split
  · exact k.mono (by omega)
  · split
    · exact k.cutService.mono (by omega)
    · split
      · split
        · exact k.pinnedAbort.mono (by omega)
        · split
          · exact k.countChoice.takeGrant.mono (by omega)
          · exact k.countChoice.pinnedAbort
      · split
        · exact k.takeGrant.mono (by omega)
        · exact k.mono (by omega)

/-- The step 2 of a withdrawal that the loss of the grant settles has begun, and its step 3 comes next (R118). -/
theorem Heeds.settleCut (k : Heeds n L o s) : Heeds n L o (s.settleCut h) := by
  unfold State.settleCut
  split
  · next w withdraws =>
    split
    · next cutting => exact k.withdrawalGoesOn withdraws (by simp [cutting])
    · exact k
  · exact k

theorem Heeds.cutSettled (k : Heeds n L o s) (v : Service) : Heeds n L o (s.cutSettled v) := by
  unfold State.cutSettled
  split
  · exact k.settleCut
  · exact k

theorem Heeds.yieldService (k : Heeds n L o s) (v : Service) : Heeds (n + 1) L o (s.yieldService v) := by
  unfold State.yieldService
  dsimp only
  split
  · exact k.leaveBus (by simp) (by simp)
  · exact k.leaveBus (by simp) (by simp)

theorem Heeds.settleLoss (k : Heeds n L o s) : Heeds (n + 3) L o s.settleLoss := by
  have discarded := k.discardPartial
  rw [State.settleLoss_eq]
  split
  · exact (discarded.leaveBus rfl rfl).mono (by omega)
  · next v _ =>
    split
    · have pinned : Heeds n L o (s.discardPartial.pin v) := discarded.serve
      exact pinned.afterPin v _
    · split
      · exact (discarded.cutSettled v).endService.mono (by omega)
      · exact ((discarded.cutSettled v).yieldService v).mono (by omega)

theorem Heeds.proceed (k : Heeds n L o s) : Heeds (n + 3) L o s.proceed := by
  unfold State.proceed
  split
  · exact k.settleLoss
  · exact k.issueBeat.mono (by omega)

/-- The end of a service within the choices of the loss of the grant. -/
theorem Heeds.ends (k : Heeds n L o s) : Heeds (n + 3) L o s.endService := k.endService.mono (by omega)

theorem Heeds.cutAfterBeat (k : Heeds n L o s) (v : Service) : Heeds (n + 3) L o (s.cutAfterBeat v) := by
  unfold State.cutAfterBeat
  split
  · exact k.mono (by omega)
  · split
    · split
      · exact k.cutService.mono (by omega)
      · exact k.settleLoss
    · exact k.cutService.mono (by omega)

/-! ## Beats, answers and failures (chapters 4 and 6) -/

theorem Heeds.stopReading (k : Heeds n L o s) : Heeds (n + 3) L o s.stopReading := by
  unfold State.stopReading
  split
  · exact k.mono (by omega)
  · split
    · exact (k.serve).proceed
    · exact k.ends

theorem Heeds.readHalf (k : Heeds n L o s) (v : Service) (b : Byte) : Heeds (n + 3) L o (s.readHalf v b) := by
  have half : Heeds n L o (s.setEngine { s.engine with partialByte := some b, service := some { v with half := true } }) :=
    k.setEngine
  unfold State.readHalf
  dsimp only
  split
  · split
    · exact half.issueBeat.mono (by omega)
    · exact half.settleLoss
  · split
    · exact half.discardPartial.stopReading
    · exact half.issueBeat.mono (by omega)

theorem Heeds.readMove (k : Heeds n L o s) (v : Service) (bytes : List Byte) : Heeds (n + 3) L o (s.readMove v bytes) := by
  unfold State.readMove
  dsimp only
  split
  · exact (k.serve).proceed
  · split
    · exact (k.serve).proceed
    · split
      · exact (k.serve).proceed
      · exact (k.setEngine).proceed

theorem Heeds.readCheck (k : Heeds n L o s) (v : Service) (bytes : List Byte) : Heeds (n + 3) L o (s.readCheck v bytes) := by
  unfold State.readCheck
  dsimp only
  generalize committed : State.setEngine (s.setCtx _ _) _ = t
  have kept : Heeds n L o t := by
    rw [← committed]
    exact (k.setCtx).setEngine
  split
  · split
    · exact kept.ends
    · exact kept.proceed
  · split
    · exact kept.ends
    · exact kept.proceed

theorem Heeds.readDiscarded (k : Heeds n L o s) (v : Service) (unitDone : Bool) :
    Heeds (n + 3) L o (s.readDiscarded v unitDone) := by
  have goesOn : ∀ y, Heeds (n + 3) L o (if y.burst = 0 then (s.setService y).endService else (s.setService y).proceed) := by
    intro y
    have discarded : Heeds n L o (s.setService y) := k.setEngine
    split
    · exact discarded.ends
    · exact discarded.proceed
  exact goesOn _

theorem Heeds.readDone (k : Heeds n L o s) (v : Service) (b : Beat) (w : Width) (ld : Half) :
    Heeds (n + 3) L o (s.readDone v b w ld) := by
  unfold State.readDone
  dsimp only
  split
  · exact k.readDiscarded v _
  · split
    · exact k.readHalf v _
    · split
      · exact k.readCheck v _
      · exact k.readMove v _

theorem Heeds.afterUnit (k : Heeds n L o t) (s : State) (v : Service) (found : Option Cause) :
    Heeds (n + 3) L o (s.afterUnit t v found) := by
  have drained : Heeds (n + 3) L o (t.setEngState .draining).proceed := (k.serve).proceed
  unfold State.afterUnit
  split
  · split
    · exact k.ends
    · split
      · exact k.ends
      · exact drained
    · split
      · exact k.ends
      · split
        · split
          · exact drained
          · exact k.ends
        · exact k.proceed
  · split
    · exact k.ends
    · exact k.proceed

theorem Heeds.writeDone (k : Heeds n L o s) (v : Service) (b : Beat) : Heeds (n + 3) L o (s.writeDone v b) := by
  unfold State.writeDone
  split
  · obtain ⟨marked, written⟩ := s.writeUnitDone_eq v
    rw [written]
    exact ((k.setCtx).setEngine).afterUnit s v _
  · exact (k.setEngine).proceed

theorem Heeds.failBeat (k : Heeds n L o s) (e : Cause) : Heeds (n + 3) L o (s.failBeat e) := by
  unfold State.failBeat
  split
  · dsimp only
    split
    · exact (k.setEngine).cutAfterBeat _
    · split
      · split
        · exact (k.setEngine).ends
        · exact (k.setEngine).discardPartial.stopReading
      · exact (k.setEngine).ends
      · exact (k.setEngine).ends
  · exact k.mono (by omega)

theorem Heeds.noteAnswer (k : Heeds n L o s) (v : Service) (b : Beat) (a : Answer) : Heeds n L o (s.noteAnswer v b a) := by
  rw [State.noteAnswer_eq]
  exact (k.setWindow _ _).setEngine

theorem Heeds.answerBeat (k : Heeds n L o s) (a : Answer) (ld : Half) (term : Bool) :
    Heeds (n + 3) L o (s.answerBeat a ld term) := by
  unfold State.answerBeat
  split
  · next b v _ _ =>
    have noted := k.noteAnswer v b a
    dsimp only
    split
    · exact k.failBeat _
    · split
      · exact noted.cutAfterBeat _
      · split
        · exact noted.writeDone _ b
        · exact noted.readDone _ b _ _
  · exact k.mono (by omega)

/-- An arrival for the beat in flight makes one free choice more, where it may be a late one (log 30). -/
theorem Heeds.onBeat (k : Heeds n L o s) (r : Rival) {f : State → State}
    (taken : ∀ {m t}, Heeds m L o t → Heeds (m + 3) L o (f t)) : Heeds (n + 4) L o (s.onBeat r f) := by
  rcases s.onBeat_cases r f with late | late | ⟨v, b, t, -, -, rfl | rfl, effect⟩
  · rw [late]; exact (k.pastLate r).mono (by omega)
  · rw [late]; exact (k.countChoice.setEngine).mono (by omega)
  · rw [effect]; exact (taken (k.setEngine)).mono (by omega)
  · rw [effect]; exact taken (k.countChoice.setEngine)

theorem Heeds.abortReaches (k : Heeds n L o s) : Heeds (n + 3) L o s.abortReaches := by
  unfold State.abortReaches
  split
  · exact k.mono (by omega)
  · split
    · split
      · exact k.discardPartial.stopReading
      · exact (k.setEngine).mono (by omega)
    · split
      · exact (k.serve).mono (by omega)
      · split
        · exact k.ends
        · exact k.mono (by omega)
    · exact k.pinnedAbort.mono (by omega)
    · exact k.mono (by omega)

end

end Sys2Proof.Machine
end

section
/-! SUPPORT. The commands, against what a step keeps of the commands that wait and of work present. All heed them from every state,
but two: MOD, which writes the trigger of a context that a sound table has on no ready list, and the observation of a line, which
in a sound table no listed context waits for unless it is bound (R48, R121). -/

namespace Sys2Proof.Machine

-- One proof at a time: proofs elaborated side by side need more threads than the memory limit of the check leaves room for.
set_option Elab.async false

section
variable {n : Nat} {L : Prop} {o s t : State} {c : CtxNo} {h : HostNo}

/-! ## Taking a command, and answering it (R153, R154, R163) -/

/-- The step 1 that waited is handed over with a re-evaluation (R163). -/
theorem Heeds.beginDue (k : Heeds n L o s) : Heeds n L o (s.beginDue h) := by
  unfold State.beginDue
  split
  · split
    · exact k.reevaluate rfl rfl
    · exact k
  · exact k

theorem Heeds.reply (k : Heeds n L o s) (r : Reply) : Heeds n L o (s.reply h r) := by
  cases r with
  | answer bytes =>
    change Heeds n L o (s.deliver h bytes)
    unfold State.deliver
    dsimp only
    split
    · exact k.setPort _
    · exact (k.setPort _).beginDue
  | wait c =>
    change Heeds n L o (s.waitOn h c)
    unfold State.waitOn
    dsimp only
    split
    · exact k.setPort _
    · exact (k.setPort _).beginDue

theorem Heeds.take {cmd : Cmd} {run : List Byte → State → State × Reply} (runs : ∀ ps, Heeds 3 L s (run ps s).1) :
    Heeds 4 L s (s.take h cmd run) := by
  have nothing : Heeds 4 L s s := (Heeds.refl L s).mono (by decide)
  unfold State.take
  split
  · split
    · exact ((runs _).reply _).mono (by decide)
    · exact nothing
  · exact nothing

/-- A command that names a context acts on it where the tests of R8 pass. -/
theorem Heeds.onCtx (k : Heeds n L o s) {ps : List Byte} {accept : CtxState → Bool} {run : CtxNo → State × Reply}
    (runs : ∀ c, accept (s.ctx c).state = true → Heeds n L o (run c).1) : Heeds n L o (s.onCtx h ps accept run).1 := by
  unfold State.onCtx State.ctxTest
  cases ctxOf (param ps 0) with
  | none => exact k
  | some c =>
    dsimp only
    by_cases foreign : (s.ctx c).state = .free ∨ (s.ctx c).owner ≠ some h
    · rw [if_pos foreign]
      exact k
    · rw [if_neg foreign]
      cases accepted : accept (s.ctx c).state with
      | true => exact runs c accepted
      | false => exact k

/-! ## The commands of the Context Table (chapter 1) -/

theorem Heeds.claim (k : Heeds n L o s) (ps : List Byte) : Heeds n L o (State.claim h ps s).1 := by
  have claimed : ∀ c, Heeds n L o (s.takeClaim h c).1 := fun c => k.setCtx
  unfold State.claim
  dsimp only
  split
  · split
    · exact claimed _
    · exact k
  · split
    · exact k
    · split
      · exact claimed _
      · exact k

theorem Heeds.release (k : Heeds n L o s) (ps : List Byte) : Heeds n L o (State.release h ps s).1 := k.onCtx fun _ _ => k.setCtx

/-- A set command that keeps the trigger. -/
theorem Heeds.setPart (k : Heeds n L o s) {x : Option Ctx} (same : ∀ y, x = some y → y.trigger = (s.ctx c).trigger) :
    Heeds n L o (s.setPart c x).1 := by
  cases x with
  | none => exact k
  | some y => exact k.setCtx (same y rfl)

theorem Heeds.setSource (k : Heeds n L o s) (ps : List Byte) : Heeds n L o (State.setSource h ps s).1 := by
  refine k.onCtx fun c _ => k.setPart fun y set => ?_
  split at set <;> cases set
  rfl

theorem Heeds.setDest (k : Heeds n L o s) (ps : List Byte) : Heeds n L o (State.setDest h ps s).1 := by
  refine k.onCtx fun c _ => k.setPart fun y set => ?_
  split at set <;> cases set
  rfl

theorem Heeds.setCount (k : Heeds n L o s) (ps : List Byte) : Heeds n L o (State.setCount h ps s).1 := by
  refine k.onCtx fun c _ => k.setPart fun y set => ?_
  split at set <;> cases set
  rfl

theorem Heeds.setPattern (k : Heeds n L o s) (ps : List Byte) : Heeds n L o (State.setPattern h ps s).1 :=
  k.onCtx fun c _ => k.setPart fun y set => by cases set; rfl

theorem Heeds.setLink (k : Heeds n L o s) (ps : List Byte) : Heeds n L o (State.setLink h ps s).1 := by
  refine k.onCtx fun c _ => ?_
  dsimp only
  split
  · exact k.setCtx
  · split
    · exact k
    · split
      · exact k
      · split
        · exact k
        · exact k.setCtx

/-- MOD writes the trigger of a CLAIMED context, which in a sound table is on no ready list (R13, R48). -/
theorem Heeds.setMode (k : Heeds n L o s) (table : L → TableSound s) (ps : List Byte) :
    Heeds n L o (State.setMode h ps s).1 := by
  refine k.onCtx fun c accepted => ?_
  have claimed : (s.ctx c).state = .claimed := by simpa [onlyClaimed] using accepted
  have writes : ∀ x, Heeds n L o (s.setPart c (some x)).1 := fun x =>
    k.act rfl rfl fun sound => (Unseen.setCtx s (.inr fun g listed => by
      have ready := (((table sound).ready g c).1 listed).1
      rw [claimed] at ready
      cases ready)).workSound
  dsimp only
  split
  · exact writes _
  · exact k

theorem Heeds.start (k : Heeds n L o s) (ps : List Byte) : Heeds n L o (State.start h ps s).1 := by
  refine k.onCtx fun c _ => ?_
  split
  · exact k
  · exact k.reevaluate (by simp) (by simp)

theorem Heeds.suspend (k : Heeds n L o s) (ps : List Byte) : Heeds n L o (State.suspend h ps s).1 := by
  refine k.onCtx fun c _ => ?_
  dsimp only
  split
  · exact k.setCtx
  · exact k.reevaluate (by simp) (by simp)

theorem Heeds.resume (k : Heeds n L o s) (ps : List Byte) : Heeds n L o (State.resume h ps s).1 :=
  k.onCtx fun _ _ => k.reevaluate (by simp) (by simp)

theorem Heeds.abort (k : Heeds n L o s) (ps : List Byte) : Heeds (n + 3) L o (State.abort h ps s).1 := by
  have room := k.mono (Nat.le_add_right n 3)
  refine room.onCtx fun c _ => ?_
  dsimp only
  split
  · exact k.setCtx.abortReaches
  · exact room.reevaluate (by simp) (by simp)

theorem Heeds.query (k : Heeds n L o s) (ps : List Byte) : Heeds n L o (State.query h ps s).1 := k.onCtx fun _ _ => k

/-! ## The commands of the Window Table, the Scheduler and the Completion Unit (chapters 2, 3 and 8) -/

theorem Heeds.openWindow (k : Heeds n L o s) (ps : List Byte) : Heeds n L o (State.openWindow h ps s).1 := by
  unfold State.openWindow
  dsimp only
  split
  · exact k
  · split
    · exact k
    · split
      · split
        · exact k.setWindow _ _
        · exact k
      · exact k

theorem Heeds.closeWindow (k : Heeds n L o s) (ps : List Byte) : Heeds n L o (State.closeWindow h ps s).1 := by
  unfold State.closeWindow
  split
  · exact k
  · dsimp only
    split
    · exact k
    · split
      · exact k
      · split
        · exact k
        · exact k.setWindow _ _

theorem Heeds.queryWindow (k : Heeds n L o s) (ps : List Byte) : Heeds n L o (State.queryWindow h ps s).1 := by
  unfold State.queryWindow
  split
  · exact k
  · dsimp only
    split
    · exact k
    · split
      · exact k
      · exact k

theorem Heeds.setOwnWeight (k : Heeds n L o s) (ps : List Byte) : Heeds n L o (State.setOwnWeight h ps s).1 := by
  unfold State.setOwnWeight
  dsimp only
  split
  · exact k
  · split
    · exact k
    · exact k.unseen rfl rfl ⟨rfl, fun _ => rfl, .inr ⟨rfl, id⟩⟩

theorem Heeds.takeRecord (k : Heeds n L o s) (ps : List Byte) : Heeds n L o (State.takeRecord h ps s).1 := by
  unfold State.takeRecord
  split
  · exact k
  · exact k.reevaluate (by simp) (by simp)

theorem Heeds.peekRecord (k : Heeds n L o s) (ps : List Byte) : Heeds n L o (State.peekRecord h ps s).1 := by
  unfold State.peekRecord
  split
  · exact k
  · exact k

/-! ## The accesses of a port (chapter 9) -/

theorem Heeds.latchCommand (k : Heeds n L o s) (b : Byte) : Heeds n L o (s.latchCommand h b) := by
  unfold State.latchCommand
  dsimp only
  split
  · exact (k.setPort _).setPort _
  · exact k.reevaluate rfl rfl
  · split
    · exact (k.setPort _).setPort _
    · exact (k.setPort _).setPort _

theorem Heeds.commandByte (k : Heeds n L o s) {b : Byte} (e : execCommandByte h b s = .next t) : Heeds n L o t := by
  rw [← next_inj e]
  split
  · exact k.latchCommand b
  · exact k.latchCommand b
  · exact k.setPort _
  · exact k.setPort _
  · exact k

theorem Heeds.parameterByte (k : Heeds n L o s) {b : Byte} (e : execParameterByte h b s = .next t) : Heeds n L o t := by
  rw [← next_inj e]
  split
  · dsimp only
    split
    · split
      · exact k.setPort _
      · exact k.setPort _
    · exact k.setPort _
  · exact k.setPort _
  · exact k.setPort _
  · exact k.setPort _
  · exact k

theorem Heeds.statusRead (k : Heeds n L o s) (e : execStatusRead h s = .next t) : Heeds n L o t := by
  rw [← next_inj e]
  split
  · exact k.setPort _
  · exact k.setPort _

theorem Heeds.responseRead (k : Heeds n L o s) (e : execResponseRead h s = .next t) : Heeds n L o t := by
  rw [← next_inj e]
  split
  · exact k.setPort _
  · split
    · exact k.setPort _
    · exact k.setPort _

theorem Heeds.rsn (k : Heeds n L o s) (e : execRsn h s = .next t) : Heeds n L o t := by
  rw [← next_inj e]
  split
  · exact k.latchCommand _
  · exact k

theorem Heeds.badCmd (k : Heeds n L o s) {code : Byte} (e : execBadCmd h code s = .next t) : Heeds n L o t := by
  rw [← next_inj e]
  split
  · exact k.latchCommand _
  · exact k

/-- PRST changes whose result a withdrawal in progress owes, or begins one: with a re-evaluation, or with its step 1 still to wait
for a command (R159, R163). -/
theorem Heeds.prstAssertion (k : Heeds n L o s) (e : execPrstAssertion h s = .next t) : Heeds n L o t := by
  rw [← next_inj e]
  split
  · exact k
  · dsimp only
    split
    · next w withdraws => exact (k.setPort _).withdrawalGoesOn withdraws .rfl
    · next rests =>
      split
      · refine (k.setPort _).unseen rfl rfl (.setWd ?_)
        simp [State.inWithdrawal, rests]
      · exact k.reevaluate rfl rfl

theorem Heeds.prstRelease (k : Heeds n L o s) (e : execPrstRelease h s = .next t) : Heeds n L o t := by
  rw [← next_inj e]
  split
  · split
    · exact k.setPort _
    · exact k.setPort _
  · exact k

/-! ## The steps of a withdrawal (R161) -/

theorem Heeds.cutStep (k : Heeds n L o s) {w : Withdrawal} (withdraws : s.wd h = some w) (begun : w.step ≠ .begin) :
    Heeds (n + 2) L o (s.cutStep h w) := by
  unfold State.cutStep
  split
  · exact (k.withdrawalGoesOn withdraws (by simp [begun])).mono (by omega)
  · exact k.cutService

theorem Heeds.withdrawWindows (k : Heeds n L o s) : Heeds n L o (s.withdrawWindows h) := by
  unfold State.withdrawWindows
  induction allWins generalizing s with
  | nil => exact k
  | cons u l ih =>
    rw [List.foldl_cons]
    exact ih (k.setWindow _ _)

theorem Heeds.nextStep (k : Heeds n L o s) {w : Withdrawal} (withdraws : s.wd h = some w) :
    Heeds (n + 2) L o (s.nextStep h w) := by
  have room := k.mono (Nat.le_add_right n 2)
  have cuts : w.step ≠ .begin → Heeds (n + 2) L o (if s.servedHost = some h then s.cutStep h w
      else s.setWd h (some { w with step := .contexts })) := by
    intro begun
    split
    · exact k.cutStep withdraws begun
    · exact room.withdrawalGoesOn withdraws (by simp [begun])
  unfold State.nextStep
  split
  · split
    · exact room
    · exact room.beginDue
  · next step => exact cuts (by simp [step])
  · next step => exact cuts (by simp [step])
  · exact room.reevaluate (by simp) (by simp)
  · next step => exact room.withdrawWindows.withdrawalGoesOn (by simpa using withdraws) (by simp [step])
  · next step => exact (room.setCq _).withdrawalGoesOn withdraws (by simp [step])
  · exact room.reevaluate (by simp) (by simp)

theorem Heeds.nextWithdrawalStep (k : Heeds n L o s) (e : execNextWithdrawalStep h s = .next t) : Heeds (n + 2) L o t := by
  rw [← next_inj e]
  split
  · next w withdraws => exact k.nextStep withdraws
  · exact k.mono (by omega)

theorem Heeds.serviceCut (k : Heeds n L o s) (e : execServiceCut s = .next t) : Heeds (n + 2) L o t := by
  have room := k.mono (Nat.le_add_right n 2)
  rw [← next_inj e]
  split
  · split
    · next w withdraws =>
      split
      · next step => exact k.cutStep withdraws (by rcases step with e | e <;> simp [e])
      · exact room
    · exact room
  · exact room

/-! ## The arrivals on the bus and on the lines -/

theorem Heeds.grantArrival (k : Heeds n L o s) (e : execGrantArrival s = .next t) : Heeds (n + 1) L o t := by
  have seen : Heeds n L o (s.setEngine { s.engine with lgnt := true }) := k.setEngine
  rw [← next_inj e]
  split
  · exact (seen.pastLate .expiry).takeGrant
  · exact seen.mono (by omega)

theorem Heeds.grantWithdrawal (k : Heeds n L o s) (e : execGrantWithdrawal s = .next t) : Heeds (n + 3) L o t := by
  have seen : Heeds n L o (s.setEngine { s.engine with lgnt := false }) := k.setEngine
  rw [← next_inj e]
  split
  · exact seen.mono (by omega)
  · dsimp only
    split
    · exact seen.setEngine.mono (by omega)
    · exact seen.setEngine.settleLoss

theorem Heeds.beatAnswer (k : Heeds n L o s) {a : Answer} {ld : Half} {term : Bool} (e : execBeatAnswer a ld term s = .next t) :
    Heeds (n + 4) L o t := by
  rw [← next_inj e]
  exact k.onBeat _ fun k => k.answerBeat a ld term

theorem Heeds.faultAnswer (k : Heeds n L o s) {code : FaultCode} (e : execFaultAnswer code s = .next t) : Heeds (n + 4) L o t := by
  rw [← next_inj e]
  exact k.onBeat _ fun k => k.failBeat .fault

theorem Heeds.ackTimeout (k : Heeds n L o s) (e : execAckTimeout s = .next t) : Heeds (n + 4) L o t := by
  rw [← next_inj e]
  split
  · exact k.onBeat _ fun k => k.failBeat .timeout
  · exact (k.pastLate _).mono (by omega)

/-- A listed context of sound tables has its line bound to it (R48, R121). -/
theorem TableSound.line_bound (table : TableSound s) (lines : s.linesSound) {m : LineNo} (listed : c ∈ s.readyList h)
    (names : (s.ctx c).trigger.lineNo = some m) : (s.line m).bound = some c := by
  obtain ⟨ready, -⟩ := (table.ready h c).1 listed
  exact (lines m c).2 ⟨by rw [ready]; rfl, names⟩

/-- A line that is bound to no context may be written unseen. -/
theorem Heeds.setLine_unbound (k : Heeds n L o s) (sound : L → TableSound s ∧ s.linesSound) {m : LineNo}
    (unbound : (s.line m).bound = none) (x : Line) : Heeds n L o (s.setLine m x) :=
  k.act rfl rfl fun l => (Unseen.setLine x fun h c listed names => by
    have bound := (sound l).1.line_bound (sound l).2 listed names
    rw [unbound] at bound
    cases bound).workSound

theorem Heeds.requestAsserted (k : Heeds n L o s) (sound : L → TableSound s ∧ s.linesSound) {m : LineNo}
    (e : execRequestObservedAsserted m s = .next t) : Heeds n L o t := by
  rw [← next_inj e]
  split
  · exact k.reevaluate rfl rfl
  · next free => exact k.setLine_unbound sound (Option.not_isSome_iff_eq_none.1 free) _

theorem Heeds.requestDeasserted (k : Heeds n L o s) (sound : L → TableSound s ∧ s.linesSound) {m : LineNo}
    (e : execRequestObservedDeasserted m s = .next t) : Heeds n L o t := by
  have counted : ∀ (u : State) (c : CtxNo), (u.dropRequest c).pending = u.pending ∧ (u.dropRequest c).choices = u.choices := by
    intro u c
    unfold State.dropRequest
    split
    · split <;> exact ⟨rfl, rfl⟩
    · exact ⟨rfl, rfl⟩
  rw [← next_inj e]
  split
  · exact k.reevaluate (counted _ _).1 (counted _ _).2
  · next free => exact k.setLine_unbound sound free _

/-- With no command waiting the part selects, or issues the first beat of a service. -/
theorem Heeds.goOn (k : Heeds n L o s) : Heeds n L o s.goOn := by
  have past := k.pastLate .expiry
  unfold State.goOn
  split
  · split
    · exact past.selectNow false
    · exact past.issueBeat
    · exact past.issueBeat
    · exact past.issueBeat
    · exact k
    · exact k
  · exact k

/-- After RESET no context is listed, no work present, and the bus not asked for. -/
theorem Heeds.afterReset (L : Prop) (s : State) : Heeds 0 L s s.afterReset :=
  ⟨rfl, Nat.le_refl _, Nat.le_refl _, fun _ _ => ⟨s.reset_eligible.symm, fun _ => s.reset_eligible, nofun⟩⟩

end

/-! ## Every command -/

/-- A command that its block takes has a next state, and heeds what its effect heeds. -/
theorem Heeds.taken {L : Prop} {s : State} {h : HostNo} {cmd : Cmd} {run : List Byte → State → State × Reply}
    (runs : ∀ ps, Heeds 0 L s (run ps s).1) : Heeds 4 L s (s.take h cmd run) :=
  .take fun ps => (runs ps).mono (by decide)

/-- Every command has a next state, makes at most four free choices, and keeps work present true in sound tables. -/
theorem Heeds.exec (s : State) (i : Instr) : ∃ t, exec i s = .next t ∧ Heeds 4 (CoreSound s ∧ s.linesSound) s t := by
  have k := Heeds.refl (CoreSound s ∧ s.linesSound) s
  have sound : CoreSound s ∧ s.linesSound → TableSound s ∧ s.linesSound := fun l => ⟨l.1.table, l.2⟩
  cases i with
  | commandByte h b => exact ⟨_, rfl, (k.commandByte rfl).mono (by decide)⟩
  | parameterByte h b => exact ⟨_, rfl, (k.parameterByte rfl).mono (by decide)⟩
  | statusRead h => exact ⟨_, rfl, (k.statusRead rfl).mono (by decide)⟩
  | responseRead h => exact ⟨_, rfl, (k.responseRead rfl).mono (by decide)⟩
  | clm h => exact ⟨_, rfl, .taken k.claim⟩
  | rel h => exact ⟨_, rfl, .taken k.release⟩
  | src h => exact ⟨_, rfl, .taken k.setSource⟩
  | dst h => exact ⟨_, rfl, .taken k.setDest⟩
  | cnt h => exact ⟨_, rfl, .taken k.setCount⟩
  | mod h => exact ⟨_, rfl, .taken (k.setMode fun l => l.1.table)⟩
  | pat h => exact ⟨_, rfl, .taken k.setPattern⟩
  | lnk h => exact ⟨_, rfl, .taken k.setLink⟩
  | sta h => exact ⟨_, rfl, .taken k.start⟩
  | sus h => exact ⟨_, rfl, .taken k.suspend⟩
  | rsm h => exact ⟨_, rfl, .taken k.resume⟩
  | abt h => exact ⟨_, rfl, .take k.abort⟩
  | qry h => exact ⟨_, rfl, .taken k.query⟩
  | opw h => exact ⟨_, rfl, .taken k.openWindow⟩
  | clw h => exact ⟨_, rfl, .taken k.closeWindow⟩
  | qwn h => exact ⟨_, rfl, .taken k.queryWindow⟩
  | wgt h => exact ⟨_, rfl, .taken k.setOwnWeight⟩
  | tke h => exact ⟨_, rfl, .taken k.takeRecord⟩
  | pek h => exact ⟨_, rfl, .taken k.peekRecord⟩
  | rsn h => exact ⟨_, rfl, (k.rsn rfl).mono (by decide)⟩
  | badCmd h code => exact ⟨_, rfl, (k.badCmd (code := code) rfl).mono (by decide)⟩
  | prstAssertion h => exact ⟨_, rfl, (k.prstAssertion rfl).mono (by decide)⟩
  | prstRelease h => exact ⟨_, rfl, (k.prstRelease rfl).mono (by decide)⟩
  | reset => exact ⟨_, rfl, (Heeds.afterReset _ s).mono (by decide)⟩
  | grantArrival => exact ⟨_, rfl, (k.grantArrival rfl).mono (by decide)⟩
  | grantWithdrawal => exact ⟨_, rfl, (k.grantWithdrawal rfl).mono (by decide)⟩
  | beatAnswer a ld term => exact ⟨_, rfl, k.beatAnswer rfl⟩
  | faultAnswer code => exact ⟨_, rfl, k.faultAnswer (code := code) rfl⟩
  | ackTimeout => exact ⟨_, rfl, k.ackTimeout rfl⟩
  | requestObservedAsserted n => exact ⟨_, rfl, (k.requestAsserted sound rfl).mono (by decide)⟩
  | requestObservedDeasserted n => exact ⟨_, rfl, (k.requestDeasserted sound rfl).mono (by decide)⟩
  | serviceCut => exact ⟨_, rfl, (k.serviceCut rfl).mono (by decide)⟩
  | nextWithdrawalStep h => exact ⟨_, rfl, (k.nextWithdrawalStep rfl).mono (by decide)⟩

/-- Settles O2: what every command heeds, read without regard to work present. -/
theorem everyCommandCompletes : Obligations.EveryCommandCompletes := by
  unfold Obligations.EveryCommandCompletes
  intro s i
  obtain ⟨t, taken, pending, least, most, -⟩ := Heeds.exec s i
  exact ⟨t, taken, pending, least, most⟩

/-- Settles O58: a step is that of its front command, which heeds work present, or goes on with no command waiting. -/
theorem workPresentStaysSound : Obligations.WorkPresentStaysSound := by
  intro s t core lines work e
  unfold step at e
  split at e
  · next i rest _ =>
    obtain ⟨u, taken, heeds⟩ := Heeds.exec { s with pending := rest } i
    rw [← next_inj (taken.symm.trans e)]
    exact heeds.work ⟨core.withPending rest, lines⟩ work
  · rw [← next_inj e]
    exact (Heeds.refl True s).goOn.work trivial work

end Sys2Proof.Machine
end

section
/-! SUPPORT. The grant on the L-bus (R92 to R95) and the settlement of a service at its loss by Table 5-1 (R96 to R100): what is
left of a unit half read, the pin and what may follow it, and the yield. -/

namespace Sys2Proof.Machine

section
variable {s : State} {v : Service} {g : GrantLoss} {h : HostNo}

/-! ## The grant taken (R93, R100) -/

/-- A grant seen that answers the request: no expiry of an earlier beat may come late any more (log 30). -/
def State.grantSeen (s : State) : State := (s.setEngine { s.engine with lgnt := true }).pastLate .expiry

/-- A grant taken in PINNED begins the write-out, in DRAINING where the service was ending its run. -/
theorem State.takeGrant_pinned (pinned : s.engine.state = .pinned) (service : s.engine.service = some v) :
    s.takeGrant = (s.setEngine { s.engine with
      lown := true, state := if v.pinEnding = true then .draining else .writing }).issueBeat := by
  simp only [State.takeGrant, pinned, service]
  rfl

/-! ## A unit half read (R115) -/

/-- The service record once a unit half read is discarded. -/
def State.wholeUnits (s : State) (v : Service) : Service :=
  if s.engine.state = .reading ∧ v.half = true then
    { v with
      half := false, termMark := false
      dataLost := v.dataLost || (decide (v.kind ≠ .fill) && (s.window v.srcWin).sideEffect) }
  else v

/-- The byte that the discard of a unit half read leaves in the buffer: that of a unit half written. -/
def State.partialLeft (s : State) (v : Service) : Option Byte :=
  if s.engine.state = .reading ∧ v.half = true then none else s.engine.partialByte

theorem Kind.usesSource_eq (k : Kind) : k.usesSource = decide (k ≠ .fill) := by cases k <;> rfl

theorem State.srcSideEffect_eq (s : State) (v : Service) :
    s.srcSideEffect v = (decide (v.kind ≠ .fill) && (s.window v.srcWin).sideEffect) := by
  rw [State.srcSideEffect, Kind.usesSource_eq]

/-- The state once a unit half read is discarded. -/
def State.discarded (s : State) (v : Service) : State :=
  s.setEngine { s.engine with partialByte := s.partialLeft v, service := some (s.wholeUnits v) }

theorem State.discardPartial_eq (service : s.engine.service = some v) : s.discardPartial = s.discarded v := by
  unfold State.discardPartial State.discarded State.partialLeft State.wholeUnits
  rw [service, ← State.srcSideEffect_eq]
  dsimp only
  split
  · rfl
  · rw [← service]
    rfl

/-- The discard writes of the record the unit under way and the data lost alone. -/
theorem State.wholeUnits_frame (s : State) (v : Service) : s.wholeUnits v = { v with
    half := (s.wholeUnits v).half, termMark := (s.wholeUnits v).termMark, dataLost := (s.wholeUnits v).dataLost } := by
  unfold State.wholeUnits
  split <;> rfl

@[simp] theorem State.ctx_wholeUnits (s : State) (v : Service) : (s.wholeUnits v).ctx = v.ctx := by
  rw [State.wholeUnits_frame]

theorem State.srcSideEffect_discarded (s : State) (v : Service) :
    (s.discarded v).srcSideEffect (s.wholeUnits v) = s.srcSideEffect v := by
  rw [State.wholeUnits_frame]
  rfl

theorem State.isEnding_discarded (s : State) (v : Service) : (s.discarded v).isEnding (s.wholeUnits v) = s.isEnding v := by
  rw [State.wholeUnits_frame]
  rfl

/-! ## What follows a pin (R93, R115; log 28) -/

/-- What follows a pin asks the record for its context alone. -/
theorem State.afterPin_wholeUnits (s t : State) (v : Service) (g : GrantLoss) :
    t.afterPin (s.wholeUnits v) g = t.afterPin v g := by
  rw [State.wholeUnits_frame]
  rfl

theorem State.pinnedAbort_eq (service : s.engine.service = some v) :
    s.pinnedAbort = (s.setEngine { s.engine with buffer := [], service := some { v with dataLost := true } }).endService := by
  rw [State.pinnedAbort, service]

/-- With no cut and no abort taken after the withdrawal of the grant, a service just PINNED stays so, or takes the grant
asserted again. -/
theorem State.afterPin_unaborted (owner : (s.ctx v.ctx).owner = some h) (uncut : s.uncut v)
    (unaborted : (s.ctx v.ctx).abortPending = false ∨ g.abortFirst = true) :
    s.afterPin v g = if s.engine.lgnt = true then s.takeGrant else s := by
  have none : ¬(s.abortSet v = true ∧ (!g.abortFirst) = true) := by
    rw [State.abortSet]
    rcases unaborted with clear | first
    · simp [clear]
    · simp [first]
  simp only [State.afterPin, owner]
  rw [if_neg (by simp [uncut]), if_neg none]

/-- An abort taken after the withdrawal of the grant reaches a service just PINNED at once, with the grant still away. -/
theorem State.afterPin_aborted (owner : (s.ctx v.ctx).owner = some h) (uncut : s.uncut v)
    (abort : (s.ctx v.ctx).abortPending = true) (later : g.abortFirst = false) (away : s.engine.lgnt = false) :
    s.afterPin v g = s.pinnedAbort := by
  simp [State.afterPin, owner, uncut, State.abortSet, abort, later, away]

/-- Where the grant is asserted again as well, the order of the two is free. -/
theorem State.afterPin_abortedRegranted (owner : (s.ctx v.ctx).owner = some h) (uncut : s.uncut v)
    (abort : (s.ctx v.ctx).abortPending = true) (later : g.abortFirst = false) (granted : s.engine.lgnt = true) :
    s.afterPin v g = s.countChoice.takeGrant ∨ s.afterPin v g = s.countChoice.pinnedAbort := by
  by_cases choice : Config.grantFirst s.choices = true
  · exact .inl (by simp [State.afterPin, owner, uncut, State.abortSet, abort, later, granted, choice])
  · exact .inr (by simp [State.afterPin, owner, uncut, State.abortSet, abort, later, granted, choice])

/-! ## The cut that waits (R118) -/

/-- A withdrawal once its step 2 finds nothing more to cut. -/
def Withdrawal.cutOver (w : Withdrawal) : Withdrawal := if w.step = .cutting then { w with step := .contexts } else w

/-- Step 2 of the withdrawal of host `h` taken, if it is the one that waits for the service (R118). -/
def State.cutOver (s : State) (h : HostNo) : State := s.setWd h ((s.wd h).map Withdrawal.cutOver)

theorem State.setWd_same {x : Option Withdrawal} (same : x = s.wd h) : s.setWd h x = s := by
  rw [same, State.setWd, State.wd, Vector.set_getElem_self]

theorem State.settleCut_eq (s : State) (h : HostNo) : s.settleCut h = s.cutOver h := by
  unfold State.settleCut State.cutOver
  cases withdraws : s.wd h with
  | none => exact (State.setWd_same withdraws.symm).symm
  | some w =>
    dsimp only [Option.map_some, Withdrawal.cutOver]
    split
    · rfl
    · exact (State.setWd_same withdraws.symm).symm

theorem State.cutSettled_owned (owner : (s.ctx v.ctx).owner = some h) : s.cutSettled v = s.cutOver h := by
  simp only [State.cutSettled, owner, State.settleCut_eq]

/-! ## The yield (R22, R97) -/

theorem State.ctx_placeYielded {c : CtxNo} (owner : (s.ctx c).owner = some h) (d : CtxNo) :
    (s.placeYielded c).ctx d = if d = c then { s.ctx c with
      state := if (s.ctx c).suspendPending = true then .suspended else .ready, suspendPending := false } else s.ctx d := by
  rw [State.placeYielded_owned owner]
  split
  · exact State.ctx_setCtx ..
  · next goes =>
    rw [State.ctx_enterHead, State.ctx_setCtx, ← Bool.eq_false_iff.2 goes]

theorem State.readyList_placeYielded {c : CtxNo} (owner : (s.ctx c).owner = some h) (f : HostNo) :
    (s.placeYielded c).readyList f =
      if f = h ∧ (s.ctx c).suspendPending = false then c :: s.readyList h else s.readyList f := by
  rw [State.placeYielded_owned owner]
  split
  · next set => simp [set]
  · next goes =>
    rw [State.enterHead, State.readyList_setReady, Bool.eq_false_iff.2 goes]
    simp

theorem State.placeYielded_frame (s : State) (c : CtxNo) :
    s.placeYielded c = { s with
      ctxs := (s.placeYielded c).ctxs, sched := { s.sched with ready := (s.placeYielded c).sched.ready } } := by
  unfold State.placeYielded
  dsimp only
  split
  · rfl
  · split <;> rfl

/-- A PACED request of the service whose unit was not committed is in force again. -/
def State.rearmed (s : State) (v : Service) : State :=
  if v.trigger.isPaced ∧ v.unitsCommitted = 0 then s.setArmed v.ctx true else s

theorem State.line_rearmed (s : State) (v : Service) (n : LineNo) :
    (s.rearmed v).line n =
      if v.trigger.isPaced = true ∧ (s.ctx v.ctx).trigger.lineNo = some n ∧ v.unitsCommitted = 0 then
        { s.line n with armed := true }
      else s.line n := by
  unfold State.rearmed
  split
  · next again => simp [State.line_setArmed, again]
  · next kept => rw [if_neg fun again => kept ⟨again.1, again.2.2⟩]

theorem State.rearmed_frame (s : State) (v : Service) : s.rearmed v = { s with lines := (s.rearmed v).lines } := by
  unfold State.rearmed State.setArmed
  split
  · split <;> rfl
  · rfl

/-- The service removed and its context handed back, before a waiting command is answered and the bus is left. -/
def State.yielded (s : State) (v : Service) : State := ((s.dropService.dropMark).placeYielded v.ctx).rearmed v

theorem State.yieldService_eq (s : State) (v : Service) : s.yieldService v = ((s.yielded v).answerWaiter v.ctx).leaveBus := rfl

theorem State.engine_yielded (s : State) (v : Service) : (s.yielded v).engine = s.dropService.engine := by
  rw [State.yielded, State.rearmed_frame, State.placeYielded_frame]
  rfl

theorem State.yielded_frame (s : State) (v : Service) :
    s.yielded v = { s with
      ctxs := (s.yielded v).ctxs, lines := (s.yielded v).lines, engine := (s.yielded v).engine
      sched := { s.sched with ready := (s.yielded v).sched.ready, mark := none } } := by
  rw [State.yielded, State.rearmed_frame, State.placeYielded_frame]
  rfl

theorem State.lgnt_yielded (s : State) (v : Service) : ((s.yielded v).answerWaiter v.ctx).engine.lgnt = s.engine.lgnt := by
  rw [State.engine_answerWaiter, State.engine_yielded]
  rfl

/-- The bus left after a yield: the engine has no service and asks, or is IDLE. -/
theorem State.busLeft_yielded (s : State) (v : Service) :
    ((s.yielded v).answerWaiter v.ctx).busLeft =
      (((s.yielded v).answerWaiter v.ctx).setEngine { s.engine with
        state := .asking, service := none, buffer := [], partialByte := none, beat := none, lown := false, lreq := true
        losing := none }).reevaluate := by
  rw [State.busLeft, State.engine_answerWaiter, State.engine_yielded]
  rfl

section
variable (owner : (s.ctx v.ctx).owner = some h)
include owner

theorem State.ctx_yielded (d : CtxNo) :
    (s.yielded v).ctx d = if d = v.ctx then { s.ctx v.ctx with
      state := if (s.ctx v.ctx).suspendPending = true then .suspended else .ready, suspendPending := false } else s.ctx d := by
  rw [State.yielded, State.rearmed_frame]
  exact State.ctx_placeYielded (s := s.dropService.dropMark) owner d

theorem State.readyList_yielded (f : HostNo) :
    (s.yielded v).readyList f =
      if f = h ∧ (s.ctx v.ctx).suspendPending = false then v.ctx :: s.readyList h else s.readyList f := by
  rw [State.yielded, State.rearmed_frame]
  exact State.readyList_placeYielded (s := s.dropService.dropMark) owner f

theorem State.line_yielded (n : LineNo) :
    (s.yielded v).line n =
      if v.trigger.isPaced = true ∧ (s.ctx v.ctx).trigger.lineNo = some n ∧ v.unitsCommitted = 0 then
        { s.line n with armed := true }
      else s.line n := by
  rw [State.yielded, State.line_rearmed, State.ctx_placeYielded (s := s.dropService.dropMark) owner, if_pos rfl,
    State.line_placeYielded]
  rfl

end

/-- A yield asks the record for its context, its trigger and its commits, and the engine for none of its service. -/
theorem State.yieldService_discarded (s t : State) (v : Service) :
    (t.setEngine (s.discarded v).engine).yieldService (s.wholeUnits v) = (t.setEngine s.engine).yieldService v := by
  rw [State.wholeUnits_frame]
  rfl

/-! ## The settlement by Table 5-1 (R96) -/

/-- The state of a service PINNED at the loss of the grant (R99). -/
def State.lossPinned (s : State) (v : Service) : State :=
  s.setEngine { s.engine with
    state := .pinned, beat := none, lown := false, lreq := true, losing := none, partialByte := s.partialLeft v
    service := some { s.wholeUnits v with burst := 0, writeOut := true, pinEnding := s.isEnding v } }

theorem State.pin_discarded (s : State) (v : Service) : (s.discarded v).pin (s.wholeUnits v) = s.lossPinned v := by
  rw [State.pin, State.isEnding_discarded]
  rfl

/-- A service pinned at the loss of the grant and granted again writes out, in DRAINING where it was ending its run. -/
theorem State.takeGrant_lossPinned {t : State} (pinned : t.engine = (s.lossPinned v).engine) :
    t.takeGrant = (t.setEngine { (s.lossPinned v).engine with
      lown := true, state := if s.isEnding v = true then .draining else .writing }).issueBeat := by
  rw [State.takeGrant_pinned (s := t) (congrArg Engine.state pinned) (congrArg Engine.service pinned), pinned]

theorem State.pinnedAbort_lossPinned {t : State} (pinned : t.engine = (s.lossPinned v).engine) (ending : s.isEnding v = true) :
    t.pinnedAbort = (t.setEngine { (s.lossPinned v).engine with
      buffer := []
      service := some { s.wholeUnits v with
        burst := 0, writeOut := true, pinEnding := true, dataLost := true } }).endService := by
  rw [State.pinnedAbort_eq (congrArg Engine.service pinned), pinned, ending]

theorem State.cutSettled_discarded (owner : (s.ctx v.ctx).owner = some h) :
    (s.discarded v).cutSettled (s.wholeUnits v) = (s.cutOver h).setEngine (s.discarded v).engine := by
  rw [State.cutSettled_owned (h := h)]
  · rfl
  · rw [State.ctx_wholeUnits]
    exact owner

/-- The rows of Table 5-1 for a service in flight. -/
theorem State.settleLoss_rows (service : s.engine.service = some v) (losing : s.engine.losing = some g)
    (owner : (s.ctx v.ctx).owner = some h) :
    s.settleLoss =
      if (s.srcSideEffect v && !s.engine.buffer.isEmpty) = true then (s.lossPinned v).afterPin v g
      else if s.isEnding v = true then ((s.cutOver h).setEngine (s.discarded v).engine).endService
      else (s.cutOver h).yieldService v := by
  have inFlight : (s.discarded v).engine.service = some (s.wholeUnits v) := rfl
  have lost : (s.discarded v).engine.losing = some g := losing
  rw [State.settleLoss_eq, State.discardPartial_eq service, inFlight, lost]
  dsimp only
  rw [State.srcSideEffect_discarded, State.isEnding_discarded, State.pin_discarded,
    State.afterPin_wholeUnits, State.cutSettled_discarded owner, State.yieldService_discarded]
  rfl

/-- Table 5-1 has a MOVE with side-effect units buffered pin. -/
theorem State.pins_iff (s : State) (v : Service) : (s.srcSideEffect v && !s.engine.buffer.isEmpty) = true ↔
    v.kind ≠ .fill ∧ (s.window v.srcWin).sideEffect = true ∧ s.engine.buffer ≠ [] := by
  simp [State.srcSideEffect_eq, and_assoc]

/-! ## The two observations of LGNT (R92, R93, R95) -/

/-- With no service in flight the bus is left. -/
theorem State.settleLoss_idle (idle : s.engine.service = none) : s.settleLoss = s.leaveBus := by
  have same : s.discardPartial = s := by rw [State.discardPartial, idle]
  rw [State.settleLoss_eq, same, idle]

/-- What a withdrawal of the grant notes of what was taken before it (log 5, log 17). -/
def State.lossNoted (s : State) : GrantLoss :=
  match s.engine.service with
  | some v => { abortFirst := s.abortSet v, cutFirst := s.cutWaiting v }
  | none => { abortFirst := false, cutFirst := false }

/-- A withdrawal of the grant seen and noted, before the bus is given up (R95). -/
def State.lossSeen (s : State) : State := s.setEngine { s.engine with lgnt := false, losing := some s.lossNoted }

theorem State.lossSeen_serving (service : s.engine.service = some v) :
    s.lossSeen = s.setEngine { s.engine with
      lgnt := false, losing := some { abortFirst := (s.ctx v.ctx).abortPending, cutFirst := s.cutWaiting v } } := by
  rw [State.lossSeen, State.lossNoted, service]
  rfl

theorem exec_grantArrival_taken (asks : s.engine.lreq = true) (free : s.engine.lown = false) :
    exec .grantArrival s = .next s.grantSeen.takeGrant :=
  congrArg Host.Outcome.next (if_pos (by simp [asks, free]))

theorem exec_grantWithdrawal_taken (owns : s.engine.lown = true) (keeps : s.engine.losing = none) :
    exec .grantWithdrawal s =
      .next (if s.engine.beat.isSome = true then s.lossSeen else s.lossSeen.settleLoss) :=
  congrArg Host.Outcome.next (if_neg (by simp [owns, keeps]))

end

/-- Settles O38: the rows of Table 5-1, after the discard of a unit half read: the pin with what may follow it, the early end,
and the yield. -/
theorem grantLossSettled : Obligations.GrantLossSettled := by
  unfold Obligations.GrantLossSettled
  intro s q v u g h left service losing owner cutOver record kept
  change q = s.cutOver h at cutOver
  change u = s.wholeUnits v at record
  change left = s.partialLeft v at kept
  subst cutOver record kept
  have rows := State.settleLoss_rows service losing owner
  rw [State.proceed, losing]
  refine ⟨rfl, fun pins uncut => ?_, fun unpinned => ?_⟩
  · rw [if_pos ((State.pins_iff s v).2 pins)] at rows
    refine ⟨s.lossPinned v, rfl, fun unaborted => ?_, fun abort later => ?_⟩
    · rw [State.afterPin_unaborted (s := s.lossPinned v) owner uncut unaborted] at rows
      refine ⟨fun away => rows.trans (if_neg (by simp [State.lossPinned, away])), fun granted => ?_⟩
      exact rows.trans ((if_pos granted).trans (State.takeGrant_lossPinned rfl))
    · have ending : s.isEnding v = true := by simp [State.isEnding, State.abortSet, abort]
      refine ⟨_, rfl, fun away => ?_, fun granted => ?_⟩
      · rw [rows, State.afterPin_aborted (s := s.lossPinned v) owner uncut abort later away]
        exact State.pinnedAbort_lossPinned rfl ending
      · have order := State.afterPin_abortedRegranted (s := s.lossPinned v) owner uncut abort later granted
        rw [rows]
        refine order.imp (fun grant => grant.trans ?_) fun aborted => aborted.trans (State.pinnedAbort_lossPinned rfl ending)
        rw [State.takeGrant_lossPinned (s := s) (v := v) (t := (s.lossPinned v).countChoice) rfl, if_pos ending]
  · rw [if_neg fun pins => unpinned ((State.pins_iff s v).1 pins)] at rows
    refine ⟨fun ending => rows.trans (if_pos ending), fun goesOn => ?_⟩
    rw [if_neg (by simp [goesOn]), State.yieldService_eq] at rows
    have lgnt := State.lgnt_yielded (s.cutOver h) v
    refine ⟨(s.cutOver h).yielded v, _, State.busLeft_yielded (s.cutOver h) v, fun off => ?_, fun granted asks => ?_, ?_,
      fun d other => ?_, State.readyList_yielded owner, State.line_yielded owner, ?_, State.yielded_frame (s.cutOver h) v⟩
    · exact rows.trans (State.leaveBus_left (off.imp_left lgnt.trans))
    · exact rows.trans (State.leaveBus_regranted (lgnt.trans granted) asks)
    · rw [State.ctx_yielded (s := s.cutOver h) owner, if_pos rfl]
      rfl
    · rw [State.ctx_yielded (s := s.cutOver h) owner, if_neg other]
      rfl
    · rw [State.yielded_frame]

/-- Settles O37: by the request and the ownership of the bus, and by what the engine has in hand. -/
theorem grantTakenAndWithdrawn : Obligations.GrantTakenAndWithdrawn := by
  unfold Obligations.GrantTakenAndWithdrawn
  intro s
  refine ⟨fun asks free asking => ?_, fun v asks free pinned service => ?_, fun off => ?_, fun off => ?_,
    fun v owns keeps beat service => ?_, fun owns keeps noBeat => ⟨fun idle => ?_, fun v service => ?_⟩⟩
  · rw [exec_grantArrival_taken asks free, State.takeGrant_asking (s := s.grantSeen) asking]
    rfl
  · rw [exec_grantArrival_taken asks free, State.takeGrant_pinned (s := s.grantSeen) pinned service]
    rfl
  · exact congrArg Host.Outcome.next (if_neg (by rcases off with off | off <;> simp [off]))
  · exact congrArg Host.Outcome.next (if_pos (by rcases off with off | off <;> simp [off]))
  · rw [exec_grantWithdrawal_taken owns keeps, if_pos beat, State.lossSeen_serving service]
  · rw [exec_grantWithdrawal_taken owns keeps, noBeat, State.settleLoss_idle (s := s.lossSeen) idle]
    exact congrArg Host.Outcome.next (State.leaveBus_left (.inl rfl))
  · rw [exec_grantWithdrawal_taken owns keeps, noBeat, State.lossSeen_serving service]
    rfl

end Sys2Proof.Machine
end

section
/-! SUPPORT. The beat in flight failed (chapter 6, R103 to R111): which arrivals fail it, and what the engine does of the failure
in each of its states. -/

namespace Sys2Proof.Machine

section
variable {s : State} {v : Service} {b : Beat} {k : Cause}

/-! ## The arrivals that fail a beat (R104, R105, R107) -/

/-- The timer runs for the beat in flight where its window has a limit (R105). -/
theorem State.timerRuns_iff (service : s.engine.service = some v) (beat : s.engine.beat = some b) :
    s.timerRuns = true ↔ (s.window (v.beatWindow b)).ackLimit ≠ 0 := by
  simp [State.timerRuns, beat, service]

/-- Where no timer runs nothing expires but what is late. -/
theorem exec_ackTimeout_idle (off : ¬s.timerRuns = true) : exec .ackTimeout s = .next (s.pastLate .expiry) :=
  congrArg Host.Outcome.next (if_neg off)

theorem exec_ackTimeout_runs (service : s.engine.service = some v) (beat : s.engine.beat = some b)
    (limit : (s.window (v.beatWindow b)).ackLimit ≠ 0) :
    exec .ackTimeout s = .next (s.onBeat .expiry fun t => t.failBeat .timeout) :=
  congrArg Host.Outcome.next (if_pos ((State.timerRuns_iff service beat).2 limit))

/-- An arrival for the beat in flight: an answer, or the expiry of the timer that runs for it. -/
def State.arrives (s : State) (v : Service) (b : Beat) (i : Instr) (r : Rival) : Prop :=
  ((∃ a ld term, i = .beatAnswer a ld term) ∨ ∃ code, i = .faultAnswer code) ∧ r = .answer ∨
    i = .ackTimeout ∧ (s.window (v.beatWindow b)).ackLimit ≠ 0 ∧ r = .expiry

/-- The two effects of an arrival on the beat in flight: an answer of a named width, or a failure. -/
def EndsBeat (f : State → State) : Prop :=
  (∃ a ld term, f = fun t => t.answerBeat a ld term) ∨ ∃ k, f = fun t => t.failBeat k

/-- An arrival has the same effect on the beat in every state that has the service, the beat and the limits of the windows. -/
theorem State.arrives_onBeat {i : Instr} {r : Rival} (arrival : s.arrives v b i r) :
    ∃ f, EndsBeat f ∧ ∀ t : State, t.engine.service = some v → t.engine.beat = some b →
      (∀ w, t.window w = s.window w) → exec i t = .next (t.onBeat r f) := by
  rcases arrival with ⟨⟨a, ld, term, rfl⟩ | ⟨code, rfl⟩, rfl⟩ | ⟨rfl, limit, rfl⟩
  · exact ⟨_, .inl ⟨a, ld, term, rfl⟩, fun _ _ _ _ => rfl⟩
  · exact ⟨_, .inr ⟨.fault, rfl⟩, fun _ _ _ _ => rfl⟩
  · exact ⟨_, .inr ⟨.timeout, rfl⟩, fun t serves flies same => exec_ackTimeout_runs serves flies (by rw [same]; exact limit)⟩

/-- What ends the beat with a failure of cause `k`, and so what may still arrive of it. -/
def Cause.ending (k : Cause) : Rival := if k = .timeout then .expiry else .answer

/-- A command that brings a failure fails the beat in flight. -/
theorem exec_failsWith {i : Instr} (fails : s.failsWith i k) (service : s.engine.service = some v)
    (beat : s.engine.beat = some b) :
    exec i s = .next ((s.setRival (s.rivalOf v b k.ending)).failBeat k) := by
  obtain ⟨u, c, serves, flies, cause⟩ := fails
  obtain rfl := Option.some.inj (service.symm.trans serves)
  obtain rfl := Option.some.inj (beat.symm.trans flies)
  cases i with
  | beatAnswer a ld term =>
    obtain ⟨rfl, timely, known, other⟩ := cause
    rw [exec_beatAnswer_timely service beat timely]
    exact congrArg Host.Outcome.next
      (State.answerBeat_fails (s := s.setRival (s.rivalOf v b .answer)) service beat known other ld term)
  | faultAnswer code =>
    obtain ⟨rfl, timely⟩ := cause
    exact congrArg Host.Outcome.next (State.onBeat_timely service beat timely _)
  | ackTimeout =>
    obtain ⟨rfl, timely, limit⟩ := cause
    rw [exec_ackTimeout_runs service beat limit]
    exact congrArg Host.Outcome.next (State.onBeat_timely service beat timely _)
  | _ => exact cause.elim

/-! ## What is recorded (R103) -/

theorem Service.record_eq (v : Service) (k : Cause) (p : Phase) (a : Addr) :
    v.record k p a = { v with failure := v.failure.or (some { cause := k, phase := p, addr := a }) } := by
  unfold Service.record
  cases failed : v.failure with
  | none => rfl
  | some f => exact congrArg (fun g => { v with failure := g }) failed

/-- The service record of a read beat that failed: the unit under way is gone. -/
def State.readFailed (s : State) (v : Service) (b : Beat) (k : Cause) : Service :=
  { v with
    burst := 0, half := false, termMark := if v.half = true then false else v.termMark
    failure := v.failure.or (some { cause := k, phase := .read, addr := b.addr })
    dataLost := v.dataLost || (v.half && decide (v.kind ≠ .fill) && (s.window v.srcWin).sideEffect) }

/-- The service record of a write beat that failed: the buffer is discarded. -/
def State.writeFailed (s : State) (v : Service) (b : Beat) (k : Cause) : Service :=
  { v with
    burst := 0
    failure := v.failure.or (some { cause := k, phase := .write, addr := b.addr })
    drainLost := v.drainLost || decide (s.engine.state = .draining)
    dataLost := v.dataLost || (decide (v.kind ≠ .fill) && (s.window v.srcWin).sideEffect) }

/-! ## What the engine does (R108 to R111) -/

/-- Reading stopped: a MOVE drains the complete units it holds, and any other service ends. -/
theorem State.stopReading_eq (service : s.engine.service = some v) :
    s.stopReading =
      if v.kind = .move ∧ s.engine.buffer ≠ [] then
        (s.setEngine { s.engine with state := .draining, service := some { v with burst := 0 } }).proceed
      else s.endService := by
  simp only [State.stopReading, service, Bool.not_eq_true', List.isEmpty_eq_false_iff]

section
variable (service : s.engine.service = some v) (beat : s.engine.beat = some b) (uncut : s.uncut v)
include service beat uncut

theorem State.failBeat_reading (reading : s.engine.state = .reading) (undecided : ¬(v.kind = .check ∧ v.endDecided ≠ none)) :
    s.failBeat k = (s.setEngine { s.engine with
      beat := none, partialByte := if v.half = true then none else s.engine.partialByte
      service := some (s.readFailed v b k) }).stopReading := by
  have recorded : ({ v with burst := 0 } : Service).record k .read b.addr = _ := Service.record_eq ..
  have unfinished : ¬(decide (v.kind = .check) && v.endDecided.isSome) = true := by
    simpa [Option.isSome_iff_ne_none] using undecided
  simp only [State.failBeat, beat, service, reading]
  rw [if_neg (by simp [uncut]), if_neg unfinished, recorded, State.discardPartial_eq rfl]
  refine congrArg State.stopReading (congrArg s.setEngine ?_)
  cases half : v.half <;> simp [State.partialLeft, State.wholeUnits, State.readFailed, half]

theorem State.failBeat_decided (reading : s.engine.state = .reading) (check : v.kind = .check) (decided : v.endDecided ≠ none) :
    s.failBeat k = (s.setEngine { s.engine with beat := none, service := some { v with burst := 0 } }).endService := by
  have finished : (decide (v.kind = .check) && v.endDecided.isSome) = true := by
    simp [check, Option.isSome_iff_ne_none, decided]
  simp only [State.failBeat, beat, service, reading]
  rw [if_neg (by simp [uncut]), if_pos finished]

theorem State.failBeat_writing (writes : s.engine.state = .writing ∨ s.engine.state = .draining) :
    s.failBeat k = (s.setEngine { s.engine with
      beat := none, buffer := [], service := some (s.writeFailed v b k) }).endService := by
  have recorded : ({ v with burst := 0 } : Service).record k .write b.addr = _ := Service.record_eq ..
  have waits : ¬s.cutWaiting v = true := by simp [uncut]
  have lost : s.srcSideEffect { v with burst := 0 } = _ := State.srcSideEffect_eq ..
  rcases writes with writing | draining
  · simp only [State.failBeat, beat, service, writing]
    rw [if_neg waits, recorded, lost]
    simp [State.writeFailed, writing]
  · simp only [State.failBeat, beat, service, draining]
    rw [if_neg waits, recorded, lost]
    simp [State.writeFailed, draining]

end

end

/-- Settles O45: the arrivals that find nothing to fail, those that may be late, and the failure itself by the engine's state. -/
theorem failuresHandled : Obligations.FailuresHandled := by
  unfold Obligations.FailuresHandled
  refine ⟨fun s => ⟨fun v b service beat unlimited => ?_, fun noBeat => ⟨?_, ?_⟩⟩, fun s v b service beat => ?_, ?_⟩
  · refine exec_ackTimeout_idle fun runs => ?_
    exact (State.timerRuns_iff service beat).1 runs unlimited
  · exact exec_ackTimeout_idle (by simp [State.timerRuns, noBeat])
  · rintro i (⟨a, ld, term, rfl⟩ | ⟨code, rfl⟩)
    · exact congrArg Host.Outcome.next (State.onBeat_noBeat noBeat ..)
    · exact congrArg Host.Outcome.next (State.onBeat_noBeat noBeat ..)
  · refine ⟨rfl, rfl, fun i maybe => ?_⟩
    obtain ⟨r, arrival, late⟩ : ∃ r, s.arrives v b i r ∧ s.engine.rival = some r := by
      rcases maybe with ⟨answers, late⟩ | ⟨expires, limit, late⟩
      · exact ⟨.answer, .inl ⟨answers, rfl⟩, late⟩
      · exact ⟨.expiry, .inr ⟨expires, limit, rfl⟩, late⟩
    obtain ⟨f, -, effect⟩ := State.arrives_onBeat arrival
    rw [effect s service beat fun _ => rfl, effect (s.countChoice.setEngine { s.engine with rival := none }) service beat fun _ => rfl]
    exact (State.onBeat_maybeLate service beat late f).imp (congrArg _) (congrArg _)
  · intro s i k v b left fails service beat uncut late
    change left = s.rivalOf v b k.ending at late
    subst late
    rw [exec_failsWith fails service beat]
    refine ⟨fun reading undecided => ?_, fun reading check decided => ?_, fun writes => ?_⟩
    · rw [State.failBeat_reading (s := s.setRival (s.rivalOf v b k.ending)) service beat uncut reading undecided,
        State.stopReading_eq rfl]
      refine ⟨_, rfl, fun move holds => ?_, fun ends => ?_⟩
      · exact congrArg Host.Outcome.next (if_pos ⟨move, holds⟩)
      · exact congrArg Host.Outcome.next (if_neg (by rintro ⟨move, holds⟩; exact ends.elim (· move) holds))
    · rw [State.failBeat_decided (s := s.setRival (s.rivalOf v b k.ending)) service beat uncut reading check decided]
      rfl
    · rw [State.failBeat_writing (s := s.setRival (s.rivalOf v b k.ending)) service beat uncut writes]
      rfl

end Sys2Proof.Machine
end

section
/-! SUPPORT. The cut of the ACTIVE service at the withdrawal of its host (R118): what the selection after it leaves alone, what the
cut leaves, and the acts that may come before it, at the end of a beat or at a pin. -/

namespace Sys2Proof.Machine

/-! ## A context that no selection can choose -/

/-- In `s` the ready lists name contexts other than `c` alone, the engine is without the service and the data of `c`, and since `o`
no selection has touched it. -/
structure PassedOver (o : State) (c : CtxNo) (s : State) : Prop where
  listed : ∀ g d, d ∈ s.readyList g → d ≠ c ∧ (s.ctx d).owner = some g
  ctx : s.ctx c = o.ctx c
  bound : ∀ n, (s.line n).bound = (o.line n).bound
  buffer : s.engine.buffer = [] ∧ s.engine.partialByte = none
  ended : ∀ v, s.engine.service = some v → v.ctx ≠ c

section
variable {o s t : State} {c d : CtxNo} {h : HostNo}

/-- A quiet act that leaves the service and the holding buffer alone. -/
theorem PassedOver.aside (p : PassedOver o c s) (q : Quiet s t) (service : t.engine.service = s.engine.service)
    (buffer : t.engine.buffer = s.engine.buffer) (partialByte : t.engine.partialByte = s.engine.partialByte) :
    PassedOver o c t where
  listed g d := by rw [q.ready, q.ctx]; exact p.listed g d
  ctx := (q.ctx c).trans p.ctx
  bound n := (q.bound n).trans (p.bound n)
  buffer := by rw [buffer, partialByte]; exact p.buffer
  ended := by rw [service]; exact p.ended

theorem PassedOver.countChoice (p : PassedOver o c s) : PassedOver o c s.countChoice := p.aside (.countChoice s) rfl rfl rfl

theorem PassedOver.reevaluate (p : PassedOver o c s) : PassedOver o c s.reevaluate :=
  p.aside (.reevaluate s) s.service_reevaluate (by rw [State.engine_reevaluate]) (by rw [State.engine_reevaluate])

theorem PassedOver.issueBeat (p : PassedOver o c s) : PassedOver o c s.issueBeat := by
  unfold State.issueBeat
  split
  · exact p
  · next v service =>
    refine ⟨p.listed, p.ctx, p.bound, p.buffer, fun u serves => ?_⟩
    obtain rfl := Option.some.inj serves
    exact p.ended v service

/-- The context that a selection chooses is on a ready list, so it is another. -/
theorem PassedOver.beginService (p : PassedOver o c s) (eligible : d ∈ s.eligible h) (slot : Nat) :
    PassedOver o c (s.beginService slot d) := by
  obtain ⟨other, owner⟩ := p.listed h d (State.mem_eligible eligible).2
  refine ⟨fun g e on => ?_, ?_, fun n => ?_, ?_, fun v serves => ?_⟩
  · rw [State.readyList_beginService owner] at on
    have before : e ∈ s.readyList g := by
      split at on
      · next same => rw [same]; exact List.mem_of_mem_erase on
      · exact on
    obtain ⟨apart, owned⟩ := p.listed g e before
    refine ⟨apart, ?_⟩
    rw [State.ctx_beginService]
    split
    · next same => rw [← same]; exact owned
    · exact owned
  · rw [State.ctx_beginService, if_neg other.symm]
    exact p.ctx
  · rw [State.line_beginService owner, ← p.bound]
    split <;> rfl
  · rw [State.engine_beginService owner]
    exact ⟨rfl, rfl⟩
  · rw [State.engine_beginService owner] at serves
    obtain rfl := Option.some.inj serves
    exact other

theorem PassedOver.selectNow (p : PassedOver o c s) (strobe : Bool) : PassedOver o c (s.selectNow strobe) := by
  unfold State.selectNow
  split
  · next slot d chosen =>
    obtain ⟨h, eligible⟩ := State.choose_eligible chosen
    have begun := p.beginService eligible slot
    cases strobe
    · exact begun.reevaluate
    · exact begun.issueBeat.reevaluate
  · exact PassedOver.reevaluate (p.aside (.setEngine ..) rfl rfl rfl)

theorem PassedOver.select (p : PassedOver o c s) : PassedOver o c s.select := by
  rcases s.select_cases with waits | ⟨strobe, now⟩
  · rw [waits]
    exact p.countChoice.reevaluate
  · rw [now]
    exact p.countChoice.selectNow strobe

theorem PassedOver.leaveBus (p : PassedOver o c s) : PassedOver o c s.leaveBus := by
  have left : PassedOver o c s.busLeft := PassedOver.reevaluate (p.aside (.setEngine ..) rfl rfl rfl)
  by_cases regranted : s.engine.lgnt = true ∧ s.busLeft.engine.lreq = true
  · rw [State.leaveBus_regranted regranted.1 regranted.2]
    exact PassedOver.select (left.aside (.setEngine ..) rfl rfl rfl)
  · rw [not_and_or, Bool.not_eq_true, Bool.not_eq_true] at regranted
    rw [State.leaveBus_left regranted]
    exact left

theorem PassedOver.afterService (p : PassedOver o c s) : PassedOver o c s.afterService := by
  rw [State.afterService_eq]
  split
  · exact p.select
  · exact p.leaveBus

end

/-! ## The cut (R118) -/

/-- The state that the cut of the service of context `c` leaves, before what follows it. -/
def State.cutLeft (s : State) (h : HostNo) (c : CtxNo) (w : Withdrawal) : State :=
  ((s.dropService.dropMark.releaseResources c).setCtx c (s.ctx c).withdrawn).setWd h (some { w with step := .contexts })

/-- An act before a cut: a quiet one that leaves the ring alone, and the grant to whom it was. -/
structure BeforeCut (s r : State) : Prop extends Quiet s r where
  pointer : r.sched.pointer = s.sched.pointer
  ring : r.sched.ring = s.sched.ring
  grant : r.holdsGrant = s.holdsGrant

theorem Quiet.trans {s r t : State} (a : Quiet s r) (b : Quiet r t) : Quiet s t :=
  ⟨fun d => (b.ctx d).trans (a.ctx d), fun g => (b.ready g).trans (a.ready g), fun g => (b.cq g).trans (a.cq g),
    fun g => (b.wd g).trans (a.wd g), fun g => (b.port g).trans (a.port g), fun g => (b.weight g).trans (a.weight g),
    fun u => (b.refs u).trans (a.refs u), fun n => (b.bound n).trans (a.bound n)⟩

theorem BeforeCut.refl (s : State) : BeforeCut s s := ⟨.refl s, rfl, rfl, rfl⟩

theorem BeforeCut.trans {s r t : State} (a : BeforeCut s r) (b : BeforeCut r t) : BeforeCut s t :=
  ⟨a.toQuiet.trans b.toQuiet, b.pointer.trans a.pointer, b.ring.trans a.ring, b.grant.trans a.grant⟩

/-- An act of the engine alone. -/
theorem BeforeCut.setEngine {s : State} {e : Engine} (grant : (s.setEngine e).holdsGrant = s.holdsGrant) :
    BeforeCut s (s.setEngine e) :=
  ⟨.setEngine s e, rfl, rfl, grant⟩

theorem BeforeCut.setRival (s : State) (x : Option Rival) : BeforeCut s (s.setRival x) := .setEngine rfl

theorem BeforeCut.setWindow (s : State) (u : WinNo) {x : Window} (refs : x.refs = (s.window u).refs) :
    BeforeCut s (s.setWindow u x) :=
  ⟨.setWindow s u refs, rfl, rfl, rfl⟩

section
variable {s r : State} {c : CtxNo} {h : HostNo} {v u : Service} {w : Withdrawal}

/-- The ACTIVE context stands on no list, so the cut need only take its resources. -/
theorem State.cutService_eq (service : s.engine.service = some v) (withdraws : s.wd h = some w)
    (active : (s.ctx v.ctx).state = .active) (offReady : v.ctx ∉ s.readyList h) (offHeld : v.ctx ∉ (s.cq h).held) :
    s.cutService h = (s.cutLeft h v.ctx w).afterService := by
  have freed : s.dropService.dropMark.freeCtx h v.ctx =
      (s.dropService.dropMark.releaseResources v.ctx).setCtx v.ctx (s.ctx v.ctx).withdrawn := by
    rw [State.freeCtx_eq, State.offLists_same (s := s.dropService.dropMark) offReady offHeld]
    exact congrArg (State.setCtx · v.ctx (s.ctx v.ctx).freed) (if_pos (by simp [active, CtxState.started]))
  simp only [State.cutService, service, freed]
  have stays : ((s.dropService.dropMark.releaseResources v.ctx).setCtx v.ctx (s.ctx v.ctx).withdrawn).wd h = some w := by
    rw [State.wd_setCtx, State.wd_releaseResources]
    exact withdraws
  rw [stays]
  rfl

theorem State.engine_cutLeft (s : State) (h : HostNo) (c : CtxNo) (w : Withdrawal) :
    (s.cutLeft h c w).engine = s.dropService.engine := by simp [State.cutLeft]

theorem State.ctx_cutLeft (s : State) (h : HostNo) (c : CtxNo) (w : Withdrawal) (d : CtxNo) :
    (s.cutLeft h c w).ctx d = if d = c then (s.ctx c).withdrawn else s.ctx d := by
  simp [State.cutLeft, State.ctx_setCtx]

theorem State.readyList_cutLeft (s : State) (h : HostNo) (c : CtxNo) (w : Withdrawal) (g : HostNo) :
    (s.cutLeft h c w).readyList g = s.readyList g := by simp [State.cutLeft]

theorem State.wd_cutLeft (s : State) (h : HostNo) (c : CtxNo) (w : Withdrawal) :
    (s.cutLeft h c w).wd h = some { w with step := .contexts } := State.wd_setWd_self ..

/-- What the cut takes from windows and lines is what the context had of them. -/
theorem State.cutLeft_released (s : State) (h : HostNo) (c : CtxNo) (w : Withdrawal) : Released s (s.cutLeft h c w) c where
  windows := (State.releaseResources_released s.dropService.dropMark c).windows
  lines := (State.releaseResources_released s.dropService.dropMark c).lines

theorem State.cutLeft_passedOver (s : State) (h : HostNo) (w : Withdrawal)
    (listed : ∀ g d, d ∈ s.readyList g → d ≠ c ∧ (s.ctx d).owner = some g) :
    PassedOver (s.cutLeft h c w) c (s.cutLeft h c w) where
  listed g d := by
    rw [State.readyList_cutLeft]
    intro on
    obtain ⟨other, owned⟩ := listed g d on
    exact ⟨other, by rw [State.ctx_cutLeft, if_neg other]; exact owned⟩
  ctx := rfl
  bound _ := rfl
  buffer := by rw [State.engine_cutLeft]; exact ⟨rfl, rfl⟩
  ended := by simp [State.engine_cutLeft, State.dropService]

theorem CoreSound.serving_active (core : CoreSound s) (service : s.engine.service = some v) : (s.ctx v.ctx).state = .active :=
  (core.table.active _).2 (by rw [service]; rfl)

/-- The ready lists name other contexts than the one in service, each on the list of its owner. -/
theorem CoreSound.listed (core : CoreSound s) (service : s.engine.service = some v) (g : HostNo) (d : CtxNo)
    (on : d ∈ s.readyList g) : d ≠ v.ctx ∧ (s.ctx d).owner = some g := by
  obtain ⟨ready, owned⟩ := (core.table.ready g d).1 on
  exact ⟨fun same => by simp [same, core.serving_active service] at ready, owned⟩

/-- The cut of the service in flight, after an act that may come before it. -/
theorem CoreSound.cutMade (core : CoreSound s) (service : s.engine.service = some v) (withdraws : s.wd h = some w)
    (before : BeforeCut s r) (serves : r.engine.service = some u) (same : u.ctx = v.ctx) :
    CutMade s (r.cutService h) h v.ctx w := by
  have active := core.serving_active service
  have listed : ∀ g d, d ∈ r.readyList g → d ≠ v.ctx ∧ (r.ctx d).owner = some g := fun g d => by
    rw [before.ready, before.ctx]
    exact core.listed service g d
  have cut : r.cutService h = (r.cutLeft h v.ctx w).afterService := by
    rw [← same]
    rw [← same] at active listed
    refine State.cutService_eq serves ?_ ?_ (fun on => (listed h u.ctx on).1 rfl) fun on => ?_
    · rw [before.wd]; exact withdraws
    · rw [before.ctx]; exact active
    · rw [before.cq] at on
      simpa [active] using ((core.table.held h u.ctx).1 on).1
  have passed := (State.cutLeft_passedOver r h w listed).afterService
  have released := State.cutLeft_released r h v.ctx w
  have grant : (r.cutLeft h v.ctx w).holdsGrant = s.holdsGrant := by
    rw [State.holdsGrant, State.engine_cutLeft]
    exact before.grant
  rw [cut]
  exact {
    freed := by rw [passed.ctx, State.ctx_cutLeft, if_pos rfl, before.ctx]
    refs := fun x => by rw [State.window_afterService, released.refs, before.refs, before.ctx]
    bound := fun n => by rw [passed.bound, released.bound, before.bound, before.ctx]
    records := fun g => by simp [State.cutLeft, before.cq]
    ports := fun g => by simp [State.cutLeft, before.port]
    pointer := by simp [State.cutLeft, before.pointer]
    buffer := passed.buffer
    ended := passed.ended
    next := by rw [State.wd_afterService, State.wd_cutLeft]
    bus := by
      refine ⟨r.cutLeft h v.ctx w, fun d => ?_, fun g => ?_, ?_, ?_, ?_, ?_, State.wd_cutLeft .., ?_⟩
      · rw [State.ctx_cutLeft, before.ctx, before.ctx]
      · rw [State.readyList_cutLeft, before.ready]
      · rw [State.engine_cutLeft]; rfl
      · simp [State.cutLeft, State.dropMark]
      · simp [State.cutLeft, before.pointer]
      · simp [State.cutLeft, before.ring]
      · rw [State.afterService_eq, grant]
        simp only [State.holdsGrant_iff] }

end

/-! ## The acts before a cut (R95, R103) -/

section
variable {s : State} {v : Service} {b : Beat} {h : HostNo} {w : Withdrawal} {g : GrantLoss}

theorem State.cutWaiting_of (owner : (s.ctx v.ctx).owner = some h) (withdraws : s.wd h = some w) (waits : w.step = .cutting) :
    s.cutWaiting v = true := by
  simp [State.cutWaiting, owner, withdraws, waits]

/-- The cut that waits has its way where the grant stays, or was lost after it (log 5). -/
theorem State.cutAfterBeat_cuts (owner : (s.ctx v.ctx).owner = some h)
    (first : s.engine.losing = none ∨ ∃ g, s.engine.losing = some g ∧ g.cutFirst = true) : s.cutAfterBeat v = s.cutService h := by
  rcases first with keeps | ⟨g, losing, cutFirst⟩
  · simp only [State.cutAfterBeat, owner, keeps]
  · simp only [State.cutAfterBeat, owner, losing, cutFirst, if_true]

/-- The settlement has its way where the grant was lost first. -/
theorem State.cutAfterBeat_settles (owner : (s.ctx v.ctx).owner = some h) (losing : s.engine.losing = some g)
    (later : g.cutFirst = false) : s.cutAfterBeat v = s.settleLoss := by
  simp [State.cutAfterBeat, owner, losing, later]

/-- A service pinned at the loss of the grant is cut at once. -/
theorem State.settleLoss_cuts (service : s.engine.service = some v) (losing : s.engine.losing = some g)
    (owner : (s.ctx v.ctx).owner = some h) (waits : s.cutWaiting v = true) (pins : v.kind ≠ .fill ∧
      (s.window v.srcWin).sideEffect = true ∧ s.engine.buffer ≠ []) : s.settleLoss = (s.lossPinned v).cutService h := by
  rw [State.settleLoss_rows service losing owner, if_pos ((State.pins_iff s v).2 pins)]
  have owned : ((s.lossPinned v).ctx v.ctx).owner = some h := owner
  simp only [State.afterPin, owned]
  exact if_pos waits

/-- A service that the loss of the grant pins, with the beat it waited for ended, is cut (log 5). -/
theorem CoreSound.cutMade_settleLoss (core : CoreSound s) (service : s.engine.service = some v) (owner : (s.ctx v.ctx).owner = some h)
    (withdraws : s.wd h = some w) (waits : w.step = .cutting) (lost : s.engine.losing = some g)
    (pins : v.kind ≠ .fill ∧ (s.window v.srcWin).sideEffect = true ∧ s.engine.buffer ≠ []) {e : Engine} {u : Service}
    (losing : e.losing = some g) (buffer : e.buffer = s.engine.buffer)
    (serves : e.service = some u) (same : u.ctx = v.ctx) (kind : u.kind = v.kind) (srcWin : u.srcWin = v.srcWin) :
    CutMade s (s.setEngine e).settleLoss h v.ctx w := by
  have away : s.holdsGrant = false := State.holdsGrant_false (.inr (by simp [lost]))
  have owned : ((s.setEngine e).ctx u.ctx).owner = some h := by rw [same]; exact owner
  rw [State.settleLoss_cuts (s := s.setEngine e) serves losing owned (State.cutWaiting_of owned withdraws waits)]
  · exact core.cutMade service withdraws (.setEngine away.symm) rfl ((State.ctx_wholeUnits _ u).trans same)
  · rw [kind, srcWin, State.window_setEngine, State.engine_setEngine, buffer]
    exact pins

/-- A failed beat that a cut waits for records nothing. -/
theorem State.failBeat_cut (service : s.engine.service = some v) (beat : s.engine.beat = some b) (waits : s.cutWaiting v = true)
    (k : Cause) :
    s.failBeat k = (s.setEngine { s.engine with beat := none, service := some { v with burst := 0 } }).cutAfterBeat
      { v with burst := 0 } := by
  simp only [State.failBeat, beat, service, waits, if_true]

/-- A completed beat that a cut waits for commits nothing. -/
theorem State.answerBeat_cut (service : s.engine.service = some v) (beat : s.engine.beat = some b) {a : Answer}
    (fits : (s.window (v.beatWindow b)).inForce = none ∨ (s.window (v.beatWindow b)).inForce = some a.width)
    (waits : s.cutWaiting v = true) (ld : Half) (term : Bool) :
    s.answerBeat a ld term = (s.noteAnswer v b a).cutAfterBeat (v.cutBurst (a.single && b.inBurst)) := by
  rw [State.answerBeat_completes service beat fits, State.noteAnswer_eq]
  exact if_pos waits

/-- A plain answer notes the end of the beat alone. -/
theorem State.noteAnswer_plain {a : Answer} (service : s.engine.service = some v) (single : a.single = false)
    (known : (s.window (v.beatWindow b)).inForce = some a.width) :
    s.noteAnswer v b a = s.setEngine { s.engine with beat := none } := by
  have same : s.setWindow (v.beatWindow b) (s.window (v.beatWindow b)) = s := by
    rw [State.setWindow, State.window, Vector.set_getElem_self]
  rw [State.noteAnswer_eq, single, Bool.false_and, Window.taught_known known, same, Service.cutBurst_false, ← service]

theorem BeforeCut.noteAnswer (s : State) (v : Service) (b : Beat) (a : Answer) : BeforeCut s (s.noteAnswer v b a) := by
  rw [State.noteAnswer_eq]
  have taught : BeforeCut s (s.setWindow (v.beatWindow b)
      ((s.window (v.beatWindow b)).taught a.width (a.single && b.inBurst))) := .setWindow s _ rfl
  exact taught.trans (.setEngine rfl)

/-- The state `t` is what becomes of the service `v` of `s` where a cut waits for its beat: an act that may come before a cut, and
then the cut or the settlement. -/
def State.BeatEndsFor (s : State) (v : Service) (t : State) : Prop :=
  ∃ r u, t = r.cutAfterBeat u ∧ BeforeCut s r ∧ r.engine.service = some u ∧ u.ctx = v.ctx ∧ r.engine.losing = s.engine.losing

theorem State.beatEndsFor_failBeat (service : s.engine.service = some v) (beat : s.engine.beat = some b)
    (waits : s.cutWaiting v = true) (k : Cause) : s.BeatEndsFor v (s.failBeat k) :=
  ⟨_, _, State.failBeat_cut service beat waits k, .setEngine rfl, rfl, rfl, rfl⟩

theorem State.beatEndsFor_answerBeat (service : s.engine.service = some v) (beat : s.engine.beat = some b)
    (waits : s.cutWaiting v = true) (a : Answer) (ld : Half) (term : Bool) : s.BeatEndsFor v (s.answerBeat a ld term) := by
  by_cases fits : (s.window (v.beatWindow b)).inForce = none ∨ (s.window (v.beatWindow b)).inForce = some a.width
  · refine ⟨_, _, State.answerBeat_cut service beat fits waits ld term, .noteAnswer s v b a, ?_, rfl, ?_⟩
    · rw [State.noteAnswer_eq]; rfl
    · rw [State.noteAnswer_eq]; rfl
  · obtain ⟨known, other⟩ := not_or.1 fits
    rw [State.answerBeat_fails service beat (Option.isSome_iff_ne_none.2 known) other]
    exact State.beatEndsFor_failBeat service beat waits _

/-- Whatever ends the beat for which a cut waits comes to that cut. -/
theorem EndsBeat.beatEndsFor {f : State → State} (ends : EndsBeat f) (service : s.engine.service = some v)
    (beat : s.engine.beat = some b) (waits : s.cutWaiting v = true) : s.BeatEndsFor v (f s) := by
  rcases ends with ⟨a, ld, term, rfl⟩ | ⟨k, rfl⟩
  · exact State.beatEndsFor_answerBeat service beat waits a ld term
  · exact State.beatEndsFor_failBeat service beat waits k

end

/-! ## The commands of the cut, and the arrivals that make it (R118, R161) -/

section
variable {s : State} {v : Service} {b : Beat} {h : HostNo} {w : Withdrawal} {g : GrantLoss} {i : Instr}

/-- SERVICE_CUT and step 2 of the withdrawal are one act (log 4). -/
theorem exec_cutStep (service : s.engine.service = some v) (owner : (s.ctx v.ctx).owner = some h) (withdraws : s.wd h = some w)
    (due : w.step = .cut ∨ w.step = .cutting) (cuts : i = .serviceCut ∨ i = .nextWithdrawalStep h) :
    exec i s = .next (s.cutStep h w) := by
  have served : s.servedHost = some h := by rw [State.servedHost, service]; exact owner
  rcases cuts with rfl | rfl
  · change execServiceCut s = _
    simp only [execServiceCut, served, withdraws, if_pos due]
  · change execNextWithdrawalStep h s = _
    rcases due with step | step
    · simp only [execNextWithdrawalStep, withdraws, State.nextStep, step, if_pos served]
    · simp only [execNextWithdrawalStep, withdraws, State.nextStep, step, if_pos served]

/-- An arrival that cannot be a late one makes the cut that waits and has its way. -/
theorem exec_arrival_cuts (core : CoreSound s) (service : s.engine.service = some v)
    (owner : (s.ctx v.ctx).owner = some h) (withdraws : s.wd h = some w) (cutting : w.step = .cutting)
    (beat : s.engine.beat = some b)
    (first : s.engine.losing = none ∨ ∃ g, s.engine.losing = some g ∧ g.cutFirst = true) {r : Rival}
    (arrives : s.arrives v b i r) (timely : s.engine.rival ≠ some r) : ∃ t, exec i s = .next t ∧ CutMade s t h v.ctx w := by
  obtain ⟨f, ends, effect⟩ := State.arrives_onBeat arrives
  obtain ⟨q, u, cut, before, serves, same, keeps⟩ := ends.beatEndsFor (s := s.setRival (s.rivalOf v b r)) service beat
    (State.cutWaiting_of owner withdraws cutting)
  have prior : BeforeCut s q := .trans (.setRival s _) before
  have taken : exec i s = .next (q.cutAfterBeat u) := by
    rw [effect s service beat fun _ => rfl, State.onBeat_timely service beat timely, ← cut]
    rfl
  have made : q.cutAfterBeat u = q.cutService h :=
    State.cutAfterBeat_cuts (by rw [prior.ctx, same]; exact owner) (by rw [keeps]; exact first)
  exact ⟨_, taken, made ▸ core.cutMade service withdraws prior serves same⟩

/-- A plain answer to the beat for which both wait, the loss of the grant first, commits nothing. -/
theorem exec_beatAnswer_settles (service : s.engine.service = some v) (owner : (s.ctx v.ctx).owner = some h)
    (beat : s.engine.beat = some b) (waits : s.cutWaiting v = true) (losing : s.engine.losing = some g)
    (later : g.cutFirst = false) {a : Answer} (plain : s.plainAnswer v b a) (ld : Half) (term : Bool) :
    exec (.beatAnswer a ld term) s =
      .next (s.setEngine { s.engine with beat := none, rival := s.rivalOf v b .answer }).settleLoss := by
  obtain ⟨single, known, timely⟩ := plain
  rw [exec_beatAnswer_timely service beat timely,
    State.answerBeat_cut (s := s.setRival (s.rivalOf v b .answer)) service beat (.inr known) waits,
    State.noteAnswer_plain (s := s.setRival (s.rivalOf v b .answer)) service single known, single, Bool.false_and,
    Service.cutBurst_false]
  exact congrArg Host.Outcome.next (State.cutAfterBeat_settles owner losing later)

/-- A failure of that beat records nothing. -/
theorem exec_failsWith_settles (service : s.engine.service = some v) (owner : (s.ctx v.ctx).owner = some h)
    (beat : s.engine.beat = some b) (waits : s.cutWaiting v = true) (losing : s.engine.losing = some g)
    (later : g.cutFirst = false) {k : Cause} (fails : s.failsWith i k) :
    exec i s = .next (s.setEngine { s.engine with
      beat := none, rival := s.rivalOf v b k.ending, service := some { v with burst := 0 } }).settleLoss := by
  rw [exec_failsWith fails service beat, State.failBeat_cut (s := s.setRival (s.rivalOf v b k.ending)) service beat waits]
  exact congrArg Host.Outcome.next (State.cutAfterBeat_settles owner losing later)

end

/-- Settles O48: the cut awaited or made at once; the end of the beat that makes it; and the settlement that comes first, of which a
pin is cut at once. -/
theorem serviceCutMade : Obligations.ServiceCutMade := by
  unfold Obligations.ServiceCutMade
  intro s h v w core service owner withdraws due
  refine ⟨fun i cuts => ?_, fun cutting b beat => ⟨fun first i arrival => ?_, fun g losing later => ?_⟩⟩
  · rw [exec_cutStep service owner withdraws due cuts]
    refine ⟨fun flies => congrArg Host.Outcome.next (if_pos flies), fun noBeat => ⟨_, rfl, ?_⟩⟩
    rw [State.cutStep, noBeat]
    exact core.cutMade service withdraws (.refl s) service rfl
  · rcases arrival with ⟨timely, answers⟩ | ⟨timely, expires, limit⟩
    · exact exec_arrival_cuts core service owner withdraws cutting beat first (.inl ⟨answers, rfl⟩) timely
    · exact exec_arrival_cuts core service owner withdraws cutting beat first (.inr ⟨expires, limit, rfl⟩) timely
  · have waits : s.cutWaiting v = true := State.cutWaiting_of owner withdraws cutting
    have answered {a : Answer} := exec_beatAnswer_settles (a := a) service owner beat waits losing later
    have failed {i : Instr} {k : Cause} := exec_failsWith_settles (i := i) (k := k) service owner beat waits losing later
    refine ⟨fun a ld term plain => answered plain ld term, fun i k fails => failed fails,
      fun notFill effect holds => ⟨fun a ld term plain => ⟨_, answered plain ld term, ?_⟩,
        fun i k fails => ⟨_, failed fails, ?_⟩⟩⟩
    · exact core.cutMade_settleLoss service owner withdraws cutting losing ⟨notFill, effect, holds⟩ losing rfl service rfl rfl rfl
    · exact core.cutMade_settleLoss service owner withdraws cutting losing ⟨notFill, effect, holds⟩ losing rfl rfl rfl rfl rfl

end Sys2Proof.Machine
end

section
/-! SUPPORT. The observations of the request lines (chapter 7, R120): what each records on an unbound and on a bound line, and which
service a deassertion marks. -/

namespace Sys2Proof.Machine

section
variable {s : State} {n : LineNo} {c : CtxNo} {v : Service}

/-! ## The service a deassertion marks (R125) -/

/-- The STREAM service of the bound context is marked. -/
theorem State.dropRequest_stream (service : s.engine.service = some v) (serves : v.ctx = c)
    (stream : v.trigger.isStream = true) :
    s.dropRequest c = s.setEngine { s.engine with service := some { v with reqDropped := true } } := by
  rw [State.dropRequest, service]
  exact if_pos ⟨serves, stream⟩

/-- Nothing is marked where the service, if there is one, is of another context or does not stream. -/
theorem State.dropRequest_other
    (other : ∀ v, s.engine.service = some v → v.ctx ≠ c ∨ v.trigger.isStream = false) : s.dropRequest c = s := by
  unfold State.dropRequest
  split
  · next v service =>
    refine if_neg fun ⟨serves, stream⟩ => ?_
    rcases other v service with elsewhere | still
    · exact elsewhere serves
    · exact Bool.false_ne_true (still.symm.trans stream)
  · rfl

/-! ## The level recorded, and what follows of it on a bound line (R120) -/

theorem exec_requestObservedAsserted_unbound (unbound : (s.line n).bound = none) :
    exec (.requestObservedAsserted n) s = .next (s.setLine n { s.line n with level := true }) :=
  congrArg Host.Outcome.next (if_neg (by simp [unbound]))

theorem exec_requestObservedAsserted_bound (bound : (s.line n).bound = some c) :
    exec (.requestObservedAsserted n) s = .next (s.setLine n { s.line n with level := true }).reevaluate :=
  congrArg Host.Outcome.next (if_pos (by simp [bound]))

theorem exec_requestObservedDeasserted_unbound (unbound : (s.line n).bound = none) :
    exec (.requestObservedDeasserted n) s = .next (s.setLine n { s.line n with level := false }) := by
  change execRequestObservedDeasserted n s = _
  simp only [execRequestObservedDeasserted, unbound]

theorem exec_requestObservedDeasserted_bound (bound : (s.line n).bound = some c) :
    exec (.requestObservedDeasserted n) s =
      .next ((s.setLine n { s.line n with level := false, armed := true }).dropRequest c).reevaluate := by
  change execRequestObservedDeasserted n s = _
  simp only [execRequestObservedDeasserted, bound]

end

/-- Settles O47: the line unbound, and the line bound, where a deassertion finds a STREAM service of its context or none. -/
theorem requestObserved : Obligations.RequestObserved := by
  unfold Obligations.RequestObserved
  intro s n
  refine ⟨fun unbound => ⟨exec_requestObservedAsserted_unbound unbound, exec_requestObservedDeasserted_unbound unbound⟩,
    fun c bound => ⟨exec_requestObservedAsserted_bound bound, fun v service serves stream => ?_, fun other => ?_⟩⟩
  · exact (exec_requestObservedDeasserted_bound bound).trans
      (congrArg (Host.Outcome.next ·.reevaluate) (State.dropRequest_stream (s := s.setLine n _) service serves stream))
  · exact (exec_requestObservedDeasserted_bound bound).trans
      (congrArg (Host.Outcome.next ·.reevaluate) (State.dropRequest_other (s := s.setLine n _) other))

end Sys2Proof.Machine
end

section
/-! SUPPORT. The commands of the Completion Unit (chapter 8), settled one by one: the bytes of a record, the peek, and the taking that
makes room for a held end. -/

namespace Sys2Proof.Machine

/-! ## The record response (Table 10-10) -/

/-- The length byte of a record: 3 bytes more with a fault address. -/
def Record.lengthByte (r : Record) : Byte := if r.faultAddr.isSome then 0x0B else 0x08

/-- The bytes that follow the counts of a record: its fault address, if it has one. -/
def Record.faultBytes (r : Record) : List Byte := (r.faultAddr.map addrBytes).getD []

theorem Record.flagByte_reads (r : Record) :
    r.flagByte.getLsbD 0 = r.wph ∧ r.flagByte.getLsbD 1 = r.drainLost ∧ r.flagByte.getLsbD 2 = r.dataLost ∧
      r.flagByte.getLsbD 3 = r.reloaded ∧ r.flagByte.getLsbD 4 = r.linkTaken ∧ r.flagByte.getLsbD 5 = r.linkRefused ∧
      r.flagByte.extractLsb' 6 2 = 0 := by
  unfold Record.flagByte
  generalize r.wph = wph, r.drainLost = drainLost, r.dataLost = dataLost, r.reloaded = reloaded, r.linkTaken = linkTaken,
    r.linkRefused = linkRefused
  revert wph drainLost dataLost reloaded linkTaken linkRefused
  decide

theorem recordResponse_layout (r : Record) :
    recordResponse r = [0x00, r.lengthByte, r.seq, BitVec.ofNat 8 r.ctx.val, r.cause.code, r.flagByte] ++ halfBytes r.moved ++
      halfBytes r.residual ++ r.faultBytes := by
  unfold recordResponse Record.bytes Record.lengthByte Record.faultBytes
  cases r.faultAddr <;> rfl

/-! ## The head record (R144, R145) -/

section
variable {s : State} {h : HostNo} {r : Record} {rest : List Record}

theorem State.peekRecord_empty (empty : (s.cq h).queue = []) (ps : List Byte) :
    State.peekRecord h ps s = (s, .of .empty) := by
  rw [State.peekRecord, empty]

theorem State.peekRecord_head (queue : (s.cq h).queue = r :: rest) (ps : List Byte) :
    State.peekRecord h ps s = (s, .answer (recordResponse r)) := by
  rw [State.peekRecord, queue]

theorem State.takeRecord_empty (empty : (s.cq h).queue = []) (ps : List Byte) :
    State.takeRecord h ps s = (s, .of .empty) := by
  rw [State.takeRecord, empty]

theorem State.takeRecord_head (queue : (s.cq h).queue = r :: rest) (ps : List Byte) :
    State.takeRecord h ps s =
      (((s.setCq h { s.cq h with queue := rest }).releaseHeld h).reevaluate, .answer (recordResponse r)) := by
  rw [State.takeRecord, queue]

/-! ## The held end that a taking posts (R143) -/

theorem State.setCq_setCq (s : State) (h : HostNo) (x y : Cq) : (s.setCq h x).setCq h y = s.setCq h y := by
  simp [State.setCq]

theorem State.releaseHeld_setCq_unheld {x : Cq} (unheld : x.held = []) : (s.setCq h x).releaseHeld h = s.setCq h x := by
  rw [State.releaseHeld, State.cq_setCq_self, unheld]

theorem State.releaseHeld_setCq_posts {x : Cq} {c : CtxNo} {waiting : List CtxNo} {e : RunEnd} (held : x.held = c :: waiting)
    (ended : (s.ctx c).pendingEnd = some e) :
    (s.setCq h x).releaseHeld h = (s.setCq h { x with held := waiting }).post c h e := by
  simp only [State.releaseHeld, State.cq_setCq_self, held, State.ctx_setCq, ended, State.setCq_setCq]

/-! ## The commands (R144, R145) -/

theorem exec_pek_head (given : s.given h .pek []) (queue : (s.cq h).queue = r :: rest) :
    exec (.pek h) s = .next (s.completed h (recordResponse r)) :=
  congrArg Host.Outcome.next (State.take_answers given (State.peekRecord_head queue []) rfl)

/-- The room that a taking makes is filled before work present is formed again (R143, R62). -/
theorem exec_tke_head {t : State} (given : s.given h .tke []) (queue : (s.cq h).queue = r :: rest)
    (released : (s.setCq h { s.cq h with queue := rest }).releaseHeld h = t) :
    exec (.tke h) s = .next (t.reevaluate.completed h (recordResponse r)) := by
  subst released
  exact congrArg Host.Outcome.next (State.take_answers given (State.takeRecord_head queue []) (by simp))

end

/-- Settles O35: the queue empty; the head peeked; and the head taken, with no end held and with one. -/
theorem recordTakenOrPeeked : Obligations.RecordTakenOrPeeked := by
  unfold Obligations.RecordTakenOrPeeked
  refine ⟨fun k => by cases k <;> rfl, fun s h => ⟨fun empty => ⟨fun given => ?_, fun given => ?_⟩, fun r rest queue => ?_⟩⟩
  · exact congrArg Host.Outcome.next (State.take_answers given (State.takeRecord_empty empty []) rfl)
  · exact congrArg Host.Outcome.next (State.take_answers given (State.peekRecord_empty empty []) rfl)
  · refine ⟨r.lengthByte, r.flagByte, r.faultBytes, ?_⟩
    rw [← recordResponse_layout]
    refine ⟨fun given => exec_pek_head given queue,
      fun given unheld => exec_tke_head given queue (State.releaseHeld_setCq_unheld unheld),
      fun given c waiting e held ended => exec_tke_head given queue (State.releaseHeld_setCq_posts held ended),
      fun unfaulted => ?_, fun a faulted => ?_, r.flagByte_reads⟩
    · simp [Record.lengthByte, Record.faultBytes, unfaulted]
    · simp [Record.lengthByte, Record.faultBytes, faulted]

end Sys2Proof.Machine
end

section
/-! SUPPORT. The accesses of a host port (chapter 9), settled one by one: a command byte, a parameter byte, the two reads, RSN and
BAD_CMD, and PRSTn. Each is an equation by the state of the port, which the proof about sound ports uses again. -/

namespace Sys2Proof.Machine

section
variable {s : State} {h : HostNo} {b : Byte} {k : Cmd}

/-! ## A command byte (R151, R153) -/

theorem State.setPort_setPort (s : State) (h : HostNo) (p q : Port) : (s.setPort h p).setPort h q = s.setPort h q := by
  simp [State.setPort]

theorem Cmd.code_of_ofCode (assigned : Cmd.ofCode b = some k) : b = k.code := by
  unfold Cmd.ofCode at assigned
  split at assigned
  all_goals cases assigned
  all_goals exact BitVec.eq_of_toNat_eq (by assumption)

theorem Cmd.ofCode_unassigned (unassigned : ∀ k : Cmd, b ≠ k.code) : Cmd.ofCode b = none :=
  Option.eq_none_iff_forall_ne_some.2 fun k assigned => unassigned k (Cmd.code_of_ofCode assigned)

/-- A code with no command is refused by the port (R153). -/
theorem State.latchCommand_unassigned (unassigned : Cmd.ofCode b = none) :
    s.latchCommand h b = s.setPort h { s.port h with
      state := .idle, latch := none, owed := 0, collect := [], response := [0x01], err := true } := by
  simp only [State.latchCommand, unassigned, State.refuseCode, State.setPort_setPort, State.port_setPort_self]
  rfl

/-- RSN is carried out by the port: the withdrawal of its issuer begins (R160, R161). -/
theorem State.latchCommand_rsn : s.latchCommand h 0x61 = ((s.setPort h { s.port h with
    state := .withdrawing, latch := some 0x61, owed := 0, collect := [], response := [] }).setWd h
      (some { step := .cut, byRsn := true })).reevaluate := by
  have code : Cmd.ofCode 0x61 = some .rsn := rfl
  simp only [State.latchCommand, code, State.resign, State.setPort_setPort, State.port_setPort_self]

/-- The port after the code of any other command: it collects the parameters, or passes a command that has none (R151, R153). -/
def Port.commanded (p : Port) (b : Byte) (k : Cmd) : Port :=
  if 0 < k.paramCount then
    { p with state := .collecting, latch := some b, owed := k.paramCount, collect := [], response := [] }
  else
    { p with
      state := .executing, latch := some b, owed := 0, collect := [], response := []
      passed := some { cmd := k, params := [], waiting := none } }

theorem State.latchCommand_assigned (assigned : Cmd.ofCode b = some k) (other : k ≠ .rsn) :
    s.latchCommand h b = s.setPort h ((s.port h).commanded b k) := by
  unfold State.latchCommand Port.commanded
  rw [assigned]
  split
  · next none => cases none
  · next resigns => exact absurd (Option.some.inj resigns) other
  · next same =>
    cases same
    by_cases none : k.paramCount = 0
    · simp [none, State.pass, State.setPort_setPort]
    · simp [none, Nat.pos_of_ne_zero none, State.setPort_setPort]

theorem exec_commandByte_taken (takes : (s.port h).state = .idle ∨ (s.port h).state = .collecting) :
    exec (.commandByte h b) s = .next (s.latchCommand h b) := by
  rcases takes with e | e <;> simp only [exec, execCommandByte, e]

theorem exec_rsn_taken (takes : (s.port h).state = .idle ∨ (s.port h).state = .collecting) :
    exec (.rsn h) s = .next (s.latchCommand h 0x61) := by
  have takesCommand : (s.port h).takesCommand = true := by simpa [Port.takesCommand] using takes
  exact congrArg Host.Outcome.next (if_pos takesCommand)

theorem exec_badCmd_taken (takes : (s.port h).state = .idle ∨ (s.port h).state = .collecting)
    (unassigned : Cmd.ofCode b = none) : exec (.badCmd h b) s = .next (s.latchCommand h b) := by
  have takesCommand : (s.port h).takesCommand = true := by simpa [Port.takesCommand] using takes
  exact congrArg Host.Outcome.next (if_pos ⟨takesCommand, unassigned⟩)

/-- Settles O6: by the state of the port; a byte that is taken is that of a command. -/
theorem commandByteTakenOrDropped : Obligations.CommandByteTakenOrDropped := by
  refine ⟨fun s h b => ⟨fun busy => ?_, fun drops => ?_, fun held => ?_⟩, fun s h b k takes assigned other => ?_⟩
  · rcases busy with e | e <;> simp only [exec, execCommandByte, e]
  · rcases drops with e | e | e <;> simp only [exec, execParameterByte, e]
  · simp only [exec, execCommandByte, execParameterByte, held, and_self]
  · rw [exec_commandByte_taken takes, State.latchCommand_assigned assigned other]
    rfl

/-- Settles O10: the row and the code are one act of the port. -/
theorem resignBeginsWithdrawal : Obligations.ResignBeginsWithdrawal := by
  rintro s h takes i (rfl | rfl)
  · rw [exec_rsn_taken takes, State.latchCommand_rsn]
  · rw [exec_commandByte_taken takes, State.latchCommand_rsn]

/-- Settles O11: the row and the byte are one act of the port, which no command has. -/
theorem unassignedCodeRefused : Obligations.UnassignedCodeRefused := by
  rintro s h b takes unassigned i (rfl | rfl)
  · rw [exec_badCmd_taken takes (Cmd.ofCode_unassigned unassigned),
      State.latchCommand_unassigned (Cmd.ofCode_unassigned unassigned)]
  · rw [exec_commandByte_taken takes, State.latchCommand_unassigned (Cmd.ofCode_unassigned unassigned)]

/-! ## A parameter byte (R152, R153) -/

/-- Settles O7: by the number of bytes still owed. -/
theorem parameterByteCollected : Obligations.ParameterByteCollected := by
  intro s h b code k collecting latch assigned
  have command : (s.port h).latch.bind Cmd.ofCode = some k := by rw [latch]; exact assigned
  refine ⟨fun n owed => ?_, fun owed => ?_⟩
  · have more : ¬n + 2 ≤ 1 := by omega
    simp only [exec, execParameterByte, collecting, command, owed, if_neg more]
    rfl
  · simp only [exec, execParameterByte, collecting, command, owed, if_pos (Nat.le_refl 1), State.pass]

/-! ## The reads (R155 to R157) -/

theorem exec_statusRead_held (held : (s.port h).state = .resetHeld) :
    exec (.statusRead h) s = .next (s.setPort h { s.port h with pd := some 0x00 }) := by
  simp only [exec, execStatusRead, held]

theorem exec_statusRead (free : (s.port h).state ≠ .resetHeld) :
    exec (.statusRead h) s = .next (s.setPort h { s.port h with pd := some (s.statusByte h), ovr := false }) := by
  cases e : (s.port h).state <;> simp_all only [exec, execStatusRead, ne_eq, not_true_eq_false, reduceCtorEq]

/-- Eight bits side by side are each read back (Table 10-13). -/
theorem getLsbD_eightBits (b7 b6 b5 b4 b3 b2 b1 b0 : Bool) :
    let b := bitAt 7 b7 ||| bitAt 6 b6 ||| bitAt 5 b5 ||| bitAt 4 b4 ||| bitAt 3 b3 ||| bitAt 2 b2 ||| bitAt 1 b1 ||| bitAt 0 b0
    b.getLsbD 7 = b7 ∧ b.getLsbD 6 = b6 ∧ b.getLsbD 5 = b5 ∧ b.getLsbD 4 = b4 ∧ b.getLsbD 3 = b3 ∧ b.getLsbD 2 = b2 ∧
      b.getLsbD 1 = b1 ∧ b.getLsbD 0 = b0 := by
  revert b7 b6 b5 b4 b3 b2 b1 b0
  decide

/-- Settles O8: the status byte read back bit by bit. -/
theorem statusByteRead : Obligations.StatusByteRead := by
  refine fun s h => ⟨fun free => ⟨s.statusByte h, exec_statusRead free, ?_⟩, exec_statusRead_held⟩
  obtain ⟨busy, collecting, response, record, held, ovr, withdrawing, err⟩ :=
    getLsbD_eightBits (s.port h).busy (decide ((s.port h).state = .collecting)) (!(s.port h).response.isEmpty) (s.atn h)
      (s.hld h) (s.port h).ovr (decide ((s.port h).state = .withdrawing)) (s.port h).err
  unfold State.statusByte
  rw [busy, collecting, response, record, held, ovr, withdrawing, err]
  simp [Port.busy, State.atn, State.hld]

/-- Settles O9: by the state of the port and the bytes that wait. -/
theorem responseByteRead : Obligations.ResponseByteRead := by
  intro s h
  refine ⟨fun free r rest waits => ?_, fun free empty => ?_, fun held => ?_⟩
  · cases e : (s.port h).state <;> simp_all [exec, execResponseRead]
  · cases e : (s.port h).state <;> simp_all [exec, execResponseRead]
  · simp only [exec, execResponseRead, held]

/-! ## PRSTn (R159, R160, R162, R163; log 3) -/

/-- The port that PRSTn holds: all that it holds is discarded, but a command that its block has still to take. -/
def Port.resetBy (p : Port) (untaken : Option Passed) : Port :=
  { p with state := .resetHeld, latch := none, owed := 0, collect := [], response := [], passed := untaken }

section
variable (free : (s.port h).state ≠ .resetHeld)
include free

theorem exec_prstAssertion_goesOn {w : Withdrawal} (withdraws : s.wd h = some w) :
    exec (.prstAssertion h) s =
      .next ((s.setPort h ((s.port h).resetBy (s.toTake h))).setWd h (some { w with byRsn := false })) :=
  congrArg Host.Outcome.next ((if_neg free).trans (by rw [withdraws]; rfl))

theorem exec_prstAssertion_waits {q : Passed} (rests : s.wd h = none) (untaken : s.toTake h = some q) :
    exec (.prstAssertion h) s =
      .next ((s.setPort h ((s.port h).resetBy (some q))).setWd h (some { step := .begin, byRsn := false })) :=
  congrArg Host.Outcome.next ((if_neg free).trans (by rw [rests, untaken]; rfl))

theorem exec_prstAssertion_begins (rests : s.wd h = none) (taken : s.toTake h = none) :
    exec (.prstAssertion h) s =
      .next ((s.setPort h ((s.port h).resetBy none)).setWd h (some { step := .cut, byRsn := false })).reevaluate :=
  congrArg Host.Outcome.next ((if_neg free).trans (by rw [rests, taken]; rfl))

end

/-- Settles O12: by the port, the withdrawal in progress and the command untaken. -/
theorem portResetAsserted : Obligations.PortResetAsserted := by
  refine fun s h => ⟨fun held => congrArg Host.Outcome.next (if_pos held), fun free w withdraws taken => ?_,
    fun free => exec_prstAssertion_begins free, fun free q untaken =>
      ⟨fun rests => exec_prstAssertion_waits free rests untaken, fun w withdraws => ?_⟩⟩
  · rw [exec_prstAssertion_goesOn free withdraws, taken]
    rfl
  · rw [exec_prstAssertion_goesOn free withdraws, untaken]
    rfl

/-- Settles O13: by the port and the withdrawal in progress. -/
theorem portResetReleased : Obligations.PortResetReleased := by
  refine fun s h => ⟨fun held rests => ?_, fun held w withdraws => ?_, fun free => congrArg Host.Outcome.next (if_neg free)⟩
  · exact congrArg Host.Outcome.next ((if_pos held).trans (by rw [rests]))
  · exact congrArg Host.Outcome.next ((if_pos held).trans (by rw [withdraws]))

end

end Sys2Proof.Machine
end

section
/-! SUPPORT. The ports and the withdrawals over the acts of a step (R150 to R155, R159 to R163). What makes a port sound depends on
its state, so it is said once for each state. An act of a step leaves ports and withdrawals alone, answers a command that waits, or
takes a withdrawal from its step 2 to its step 3. -/

namespace Sys2Proof.Machine

-- One proof at a time: proofs elaborated side by side need more threads than the memory limit of the check leaves room for.
set_option Elab.async false

/-! ## A sound port, by its state -/

section
variable {p : Port} {o o' : Option Withdrawal}

theorem PortSound.idle_iff (idle : p.state = .idle) :
    PortSound p o ↔ p.owed = 0 ∧ p.collect = [] ∧ p.response.length ≤ 16 ∧ p.passed = none ∧ o = none := by
  constructor
  · rintro ⟨-, resting, -, room, -, withdrawn, -, passed, -⟩
    obtain ⟨owed, collect⟩ := resting (by simp [idle])
    have rests : o = none := by simpa [idle] using withdrawn
    refine ⟨owed, collect, room, ?_, rests⟩
    simpa [idle, rests, Withdrawal.notBegun] using passed
  · rintro ⟨owed, collect, room, passed, rfl⟩
    constructor <;> simp [idle, owed, collect, room, passed, Withdrawal.notBegun]

theorem PortSound.collecting_iff (collecting : p.state = .collecting) :
    PortSound p o ↔ 0 < p.owed ∧ (p.latch.bind Cmd.ofCode).map Cmd.paramCount = some (p.collect.length + p.owed) ∧
      p.response = [] ∧ p.passed = none ∧ o = none := by
  constructor
  · rintro ⟨collects, -, response, -, -, withdrawn, -, passed, -⟩
    obtain ⟨owed, latch⟩ := collects collecting
    have rests : o = none := by simpa [collecting] using withdrawn
    refine ⟨owed, latch, response (by simp [collecting]), ?_, rests⟩
    simpa [collecting, rests, Withdrawal.notBegun] using passed
  · rintro ⟨owed, latch, response, passed, rfl⟩
    constructor <;> simp [collecting, owed, latch, response, passed, Withdrawal.notBegun]

theorem PortSound.executing_iff (executing : p.state = .executing) :
    PortSound p o ↔ p.owed = 0 ∧ p.collect = [] ∧ p.response = [] ∧ p.passed.isSome = true ∧ o = none := by
  constructor
  · rintro ⟨-, resting, response, -, -, withdrawn, executes, -, -⟩
    obtain ⟨owed, collect⟩ := resting (by simp [executing])
    exact ⟨owed, collect, response (by simp [executing]), executes executing, by simpa [executing] using withdrawn⟩
  · rintro ⟨owed, collect, response, passed, rfl⟩
    constructor <;> simp [executing, owed, collect, response, passed, Withdrawal.notBegun]

/-- WITHDRAWING and RESET-HELD differ in the withdrawal alone, which is complete before the end of a RESET-HELD, or not. -/
theorem PortSound.left_iff (left : p.state = .withdrawing ∨ p.state = .resetHeld) :
    PortSound p o ↔ p.owed = 0 ∧ p.collect = [] ∧ p.response = [] ∧ (p.state = .withdrawing → o.isSome = true) ∧
      (p.passed.isSome = true → Withdrawal.notBegun o = true) ∧
      (Withdrawal.notBegun o = true → p.passed.map Passed.waiting = some none) := by
  constructor
  · rintro ⟨-, resting, response, -, withdrawing, -, -, passed, begin⟩
    have uncollecting : p.state ≠ .collecting := by rcases left with e | e <;> simp [e]
    have unexecuting : p.state ≠ .executing := by rcases left with e | e <;> simp [e]
    have unidle : p.state ≠ .idle := by rcases left with e | e <;> simp [e]
    obtain ⟨owed, collect⟩ := resting uncollecting
    exact ⟨owed, collect, response unidle, withdrawing, fun some => (passed some).resolve_left unexecuting, begin⟩
  · rintro ⟨owed, collect, response, withdrawing, passed, begin⟩
    have uncollecting : p.state ≠ .collecting := by rcases left with e | e <;> simp [e]
    have unexecuting : p.state ≠ .executing := by rcases left with e | e <;> simp [e]
    exact ⟨fun e => absurd e uncollecting, fun _ => ⟨owed, collect⟩, fun _ => response, by simp [response], withdrawing,
      fun _ => left, fun e => absurd e unexecuting, fun some => .inr (passed some), begin⟩

/-- With a withdrawal in progress the port has left EXECUTING for it. -/
theorem PortSound.left_of_withdraws {w : Withdrawal} (sound : PortSound p (some w)) :
    p.state = .withdrawing ∨ p.state = .resetHeld := sound.withdrawn rfl

/-- No command is with its block but one that is executed, or one that step 1 of a withdrawal waits for. -/
theorem PortSound.passed_none (sound : PortSound p o) (unexecuting : p.state ≠ .executing)
    (begun : Withdrawal.notBegun o = false) : p.passed = none := by
  rw [← Option.not_isSome_iff_eq_none]
  intro passed
  rcases sound.passed passed with executing | waits
  · exact unexecuting executing
  · rw [begun] at waits
    cases waits

/-- A withdrawal goes on after its step 1. -/
theorem PortSound.goesOn {w y : Withdrawal} (sound : PortSound p (some w)) (before : w.step ≠ .begin) (after : y.step ≠ .begin) :
    PortSound p (some y) := by
  have left := sound.left_of_withdraws
  obtain ⟨owed, collect, response, -, passed, -⟩ := (PortSound.left_iff left).1 sound
  refine (PortSound.left_iff left).2 ⟨owed, collect, response, fun _ => rfl, fun some => ?_, fun waits => ?_⟩
  · exact absurd (passed some) (by simp [Withdrawal.notBegun, before])
  · simp [Withdrawal.notBegun, after] at waits

/-- A withdrawn command's result is discarded, and the withdrawal that waited for it begins (R163). -/
theorem PortSound.discarded (sound : PortSound p o) (unexecuting : p.state ≠ .executing) (same : o'.isSome = o.isSome)
    (begun : Withdrawal.notBegun o' = false) : PortSound { p with passed := none } o' := by
  obtain ⟨collecting, resting, response, room, withdrawing, withdrawn, -, -, -⟩ := sound
  exact ⟨collecting, resting, response, room, by rwa [same], by rwa [same], fun e => absurd e unexecuting, nofun,
    fun waits => by rw [begun] at waits; cases waits⟩

end

/-! ## Sound ports over a write -/

section
variable {s t : State} {h : HostNo} {c : CtxNo} {v : Service}

/-- An act that leaves ports and withdrawals alone. -/
theorem State.portsSound.aside (k : s.portsSound) (port : ∀ g, t.port g = s.port g) (wd : ∀ g, t.wd g = s.wd g) :
    t.portsSound := fun g => by rw [port, wd]; exact k g

/-- An act on the port and the withdrawal of one host. -/
theorem State.portsSound.own (k : s.portsSound) (port : ∀ g, g ≠ h → t.port g = s.port g) (wd : ∀ g, g ≠ h → t.wd g = s.wd g)
    (own : PortSound (t.port h) (t.wd h)) : t.portsSound := fun g => by
  by_cases same : g = h
  · rw [same]; exact own
  · rw [port g same, wd g same]; exact k g

theorem State.portsSound.setPort (k : s.portsSound) {p : Port} (own : PortSound p (s.wd h)) : (s.setPort h p).portsSound :=
  k.own (State.port_setPort_ne _ _ _) (fun _ _ => rfl) (by simpa using own)

theorem State.portsSound.setWd (k : s.portsSound) {x : Option Withdrawal} (own : PortSound (s.port h) x) :
    (s.setWd h x).portsSound :=
  k.own (fun _ _ => rfl) (State.wd_setWd_ne _ _ _) (by simpa using own)

theorem State.portsSound.withdraws (k : s.portsSound) {p : Port} {x : Option Withdrawal} (own : PortSound p x) :
    ((s.setPort h p).setWd h x).portsSound :=
  k.own (State.port_setPort_ne _ _ _) (State.wd_setWd_ne _ _ _) (by simpa using own)

theorem State.portsSound.setEngine (k : s.portsSound) (e : Engine) : (s.setEngine e).portsSound :=
  k.aside (fun _ => rfl) fun _ => rfl

theorem State.portsSound.setCtx (k : s.portsSound) (x : Ctx) : (s.setCtx c x).portsSound :=
  k.aside (fun _ => rfl) fun _ => rfl

theorem State.portsSound.countChoice (k : s.portsSound) : s.countChoice.portsSound := k.aside (fun _ => rfl) fun _ => rfl

theorem State.portsSound.reevaluate (k : s.portsSound) : s.reevaluate.portsSound := k.aside (by simp) (by simp)

/-! ## The answer to a command (R153, R154, R163) -/

/-- The result of a command is discarded at a port that has left EXECUTING, and step 1 of its withdrawal follows (R163). -/
theorem State.portsSound.discarded (k : s.portsSound) (left : (s.port h).state ≠ .executing) :
    ((s.setPort h { s.port h with passed := none }).beginDue h).portsSound := by
  unfold State.beginDue
  split
  · next w withdraws =>
    have withdraws : s.wd h = some w := withdraws
    split
    · exact (k.withdraws ((k h).discarded left (by simp [withdraws]) rfl)).reevaluate
    · next begun => exact k.setPort ((k h).discarded left rfl (by simp [withdraws, Withdrawal.notBegun, begun]))
  · next rests =>
    have rests : s.wd h = none := rests
    exact k.setPort ((k h).discarded left rfl (by simp [rests, Withdrawal.notBegun]))

/-- A command completes with at most 16 response bytes, the most that the response buffer holds (R150, R154). -/
theorem State.portsSound.deliver (k : s.portsSound) {bytes : List Byte} (room : bytes.length ≤ 16) :
    (s.deliver h bytes).portsSound := by
  by_cases executing : (s.port h).state = .executing
  · obtain ⟨owed, collect, -, -, rests⟩ := (PortSound.executing_iff executing).1 (k h)
    rw [State.deliver_executing executing]
    exact k.setPort ((PortSound.idle_iff rfl).2 ⟨owed, collect, room, rfl, rests⟩)
  · rw [State.deliver_discarded executing]
    exact k.discarded executing

theorem State.portsSound.waitOn (k : s.portsSound) : (s.waitOn h c).portsSound := by
  by_cases executing : (s.port h).state = .executing
  · obtain ⟨owed, collect, response, passed, rests⟩ := (PortSound.executing_iff executing).1 (k h)
    rw [State.waitOn_executing executing]
    exact k.setPort ((PortSound.executing_iff (by exact executing)).2 ⟨owed, collect, response, by simpa using passed, rests⟩)
  · rw [State.waitOn_discarded executing]
    exact k.discarded executing

/-- The response bytes of a reply; none where the command waits. -/
def Reply.bytes : Reply → List Byte
  | .answer bytes => bytes
  | .wait _ => []

theorem State.portsSound.reply (k : s.portsSound) {r : Reply} (room : r.bytes.length ≤ 16) : (s.reply h r).portsSound := by
  cases r with
  | answer bytes => exact k.deliver room
  | wait c => exact k.waitOn

theorem State.portsSound.answerWaiter (k : s.portsSound) : (s.answerWaiter c).portsSound := by
  unfold State.answerWaiter
  split
  · split
    · split
      · exact k.deliver (by simp)
      · exact k
    · exact k
  · exact k

/-! ## The end of a service, and the loss of the grant (chapters 4 and 5) -/

theorem State.portsSound.pastLate (k : s.portsSound) (r : Rival) : (s.pastLate r).portsSound := k.setEngine _

theorem State.portsSound.issueBeat (k : s.portsSound) : s.issueBeat.portsSound := k.aside (by simp) (by simp)

theorem State.portsSound.selectNow (k : s.portsSound) (strobe : Bool) : (s.selectNow strobe).portsSound :=
  k.aside (by simp) (by simp)

theorem State.portsSound.takeGrant (k : s.portsSound) : s.takeGrant.portsSound := k.aside (by simp) (by simp)

theorem State.portsSound.leaveBus (k : s.portsSound) : s.leaveBus.portsSound := k.aside (by simp) (by simp)

theorem State.portsSound.afterService (k : s.portsSound) : s.afterService.portsSound := k.aside (by simp) (by simp)

theorem State.portsSound.discardPartial (k : s.portsSound) : s.discardPartial.portsSound := k.aside (by simp) (by simp)

theorem State.portsSound.endRun (k : s.portsSound) (e : RunEnd) : (s.endRun c e).portsSound := by
  unfold State.endRun
  split
  · exact (k.aside (t := s.runEnds c _ e) (by simp) (by simp)).answerWaiter
  · exact k

theorem State.portsSound.endService (k : s.portsSound) : s.endService.portsSound := by
  have moved : s.dropService.movePointer.portsSound := k.aside (by simp) (by simp)
  unfold State.endService
  split
  · exact k
  · next v _ =>
    dsimp only
    split
    · exact (moved.aside (t := s.dropService.movePointer.placeCompleted v.ctx) (by simp) (by simp)).answerWaiter.afterService
    · next e _ =>
      split
      · exact (moved.endRun e).afterService
      · split
        · exact (moved.countChoice.afterService.endRun e).reevaluate
        · exact (moved.endRun e).countChoice.afterService

/-- A cut is made at step 2 of a withdrawal, so that its step 1 is past (R118, R161). -/
theorem State.portsSound.cutService (k : s.portsSound) (begun : Withdrawal.notBegun (s.wd h) = false) :
    (s.cutService h).portsSound := by
  unfold State.cutService
  split
  · exact k
  · next v _ =>
    have freed : (s.dropService.dropMark.freeCtx h v.ctx).portsSound := k.aside (by simp) (by simp)
    have same : (s.dropService.dropMark.freeCtx h v.ctx).wd h = s.wd h := by simp
    dsimp only
    rw [same]
    split
    · next w withdraws =>
      have sound := freed h
      rw [same, withdraws] at sound
      refine (freed.setWd (sound.goesOn ?_ ?_)).afterService
      · simpa [withdraws, Withdrawal.notBegun] using begun
      · exact nofun
    · exact freed.afterService

/-- A cut that waits for the beat in flight is at step 2. -/
theorem State.begun_of_cutWaiting (waits : s.cutWaiting v = true) (owner : (s.ctx v.ctx).owner = some h) :
    Withdrawal.notBegun (s.wd h) = false := by
  cases withdraws : s.wd h with
  | none => rfl
  | some w =>
    have cutting : w.step = .cutting := by simpa [State.cutWaiting, owner, withdraws] using waits
    simp [Withdrawal.notBegun, cutting]

theorem State.portsSound.pinnedAbort (k : s.portsSound) : s.pinnedAbort.portsSound := by
  unfold State.pinnedAbort
  split
  · exact k
  · exact (k.setEngine _).endService

theorem State.portsSound.afterPin (k : s.portsSound) (g : GrantLoss) : (s.afterPin v g).portsSound := by
  unfold State.afterPin
  split
  · exact k
  · next h owner =>
    split
    · next waits => exact k.cutService (State.begun_of_cutWaiting waits owner)
    · split
      · split
        · exact k.pinnedAbort
        · split
          · exact k.countChoice.takeGrant
          · exact k.countChoice.pinnedAbort
      · split
        · exact k.takeGrant
        · exact k

theorem State.portsSound.settleCut (k : s.portsSound) : (s.settleCut h).portsSound := by
  unfold State.settleCut
  split
  · next w withdraws =>
    have sound := k h
    rw [withdraws] at sound
    split
    · next cutting => exact k.setWd (sound.goesOn (by simp [cutting]) nofun)
    · exact k
  · exact k

theorem State.portsSound.cutSettled (k : s.portsSound) (v : Service) : (s.cutSettled v).portsSound := by
  unfold State.cutSettled
  split
  · exact k.settleCut
  · exact k

theorem State.portsSound.yieldService (k : s.portsSound) (v : Service) : (s.yieldService v).portsSound := by
  have placed : (s.dropService.dropMark.placeYielded v.ctx).portsSound := k.aside (by simp) (by simp)
  unfold State.yieldService
  dsimp only
  split
  · exact (placed.aside (t := State.setArmed _ v.ctx true) (by simp) (by simp)).answerWaiter.leaveBus
  · exact placed.answerWaiter.leaveBus

theorem State.portsSound.settleLoss (k : s.portsSound) : s.settleLoss.portsSound := by
  have d := k.discardPartial
  rw [State.settleLoss_eq]
  split
  · exact d.leaveBus
  · next v _ =>
    split
    · exact (d.setEngine _).afterPin _
    · split
      · exact (d.cutSettled v).endService
      · exact (d.cutSettled v).yieldService v

theorem State.portsSound.proceed (k : s.portsSound) : s.proceed.portsSound := by
  unfold State.proceed
  split
  · exact k.settleLoss
  · exact k.issueBeat

theorem State.portsSound.cutAfterBeat (k : s.portsSound) (waits : s.cutWaiting v = true) : (s.cutAfterBeat v).portsSound := by
  unfold State.cutAfterBeat
  split
  · exact k
  · next h owner =>
    have begun := State.begun_of_cutWaiting waits owner
    split
    · split
      · exact k.cutService begun
      · exact k.settleLoss
    · exact k.cutService begun

/-! ## Beats, answers and failures (chapters 4 and 6) -/

theorem State.portsSound.stopReading (k : s.portsSound) : s.stopReading.portsSound := by
  unfold State.stopReading
  split
  · exact k
  · split
    · exact (k.setEngine _).proceed
    · exact k.endService

theorem State.portsSound.readHalf (k : s.portsSound) (v : Service) (b : Byte) : (s.readHalf v b).portsSound := by
  have half := k.setEngine { s.engine with partialByte := some b, service := some { v with half := true } }
  unfold State.readHalf
  dsimp only
  split
  · split
    · exact half.issueBeat
    · exact half.settleLoss
  · split
    · exact half.discardPartial.stopReading
    · exact half.issueBeat

theorem State.portsSound.readMove (k : s.portsSound) (v : Service) (bytes : List Byte) : (s.readMove v bytes).portsSound := by
  unfold State.readMove
  dsimp only
  split
  · exact (k.setEngine _).proceed
  · split
    · exact (k.setEngine _).proceed
    · split
      · exact (k.setEngine _).proceed
      · exact (k.setEngine _).proceed

theorem State.portsSound.readCheck (k : s.portsSound) (v : Service) (bytes : List Byte) : (s.readCheck v bytes).portsSound := by
  unfold State.readCheck
  dsimp only
  generalize committed : State.setEngine (s.setCtx _ _) _ = t
  have kept : t.portsSound := committed ▸ (k.setCtx _).setEngine _
  split
  · split
    · exact kept.endService
    · exact kept.proceed
  · split
    · exact kept.endService
    · exact kept.proceed

theorem State.portsSound.readDiscarded (k : s.portsSound) (v : Service) (unitDone : Bool) :
    (s.readDiscarded v unitDone).portsSound := by
  have goesOn : ∀ y, (if y.burst = 0 then (s.setService y).endService else (s.setService y).proceed).portsSound := by
    intro y
    split
    · exact (k.setEngine _).endService
    · exact (k.setEngine _).proceed
  exact goesOn _

theorem State.portsSound.readDone (k : s.portsSound) (v : Service) (b : Beat) (w : Width) (ld : Half) :
    (s.readDone v b w ld).portsSound := by
  unfold State.readDone
  dsimp only
  split
  · exact k.readDiscarded v _
  · split
    · exact k.readHalf v _
    · split
      · exact k.readCheck v _
      · exact k.readMove v _

theorem State.portsSound.afterUnit (k : t.portsSound) (s : State) (v : Service) (found : Option Cause) :
    (s.afterUnit t v found).portsSound := by
  have drained : (t.setEngState .draining).proceed.portsSound := (k.setEngine _).proceed
  unfold State.afterUnit
  split
  · split
    · exact k.endService
    · split
      · exact k.endService
      · exact drained
    · split
      · exact k.endService
      · split
        · split
          · exact drained
          · exact k.endService
        · exact k.proceed
  · split
    · exact k.endService
    · exact k.proceed

theorem State.portsSound.writeDone (k : s.portsSound) (v : Service) (b : Beat) : (s.writeDone v b).portsSound := by
  unfold State.writeDone
  split
  · obtain ⟨marked, written⟩ := s.writeUnitDone_eq v
    rw [written]
    exact ((k.setCtx _).setEngine _).afterUnit s v _
  · exact (k.setEngine _).proceed

theorem State.portsSound.failBeat (k : s.portsSound) (e : Cause) : (s.failBeat e).portsSound := by
  unfold State.failBeat
  split
  · dsimp only
    split
    · next waits => exact (k.setEngine _).cutAfterBeat waits
    · split
      · split
        · exact (k.setEngine _).endService
        · exact (k.setEngine _).discardPartial.stopReading
      · exact (k.setEngine _).endService
      · exact (k.setEngine _).endService
  · exact k

theorem State.portsSound.noteAnswer (k : s.portsSound) (v : Service) (b : Beat) (a : Answer) :
    (s.noteAnswer v b a).portsSound := k.aside (fun _ => rfl) fun _ => rfl

theorem State.portsSound.answerBeat (k : s.portsSound) (a : Answer) (ld : Half) (term : Bool) :
    (s.answerBeat a ld term).portsSound := by
  unfold State.answerBeat
  split
  · next b v _ _ =>
    have noted := k.noteAnswer v b a
    dsimp only
    split
    · exact k.failBeat _
    · split
      · next waits => exact noted.cutAfterBeat waits
      · split
        · exact noted.writeDone _ b
        · exact noted.readDone _ b _ _
  · exact k

theorem State.portsSound.onBeat (k : s.portsSound) (r : Rival) {f : State → State}
    (taken : ∀ t, t.portsSound → (f t).portsSound) : (s.onBeat r f).portsSound := by
  rcases s.onBeat_cases r f with late | late | ⟨v, b, t, -, -, rfl | rfl, effect⟩
  · rw [late]; exact k.pastLate r
  · rw [late]; exact k.countChoice.setEngine _
  · rw [effect]; exact taken _ (k.setEngine _)
  · rw [effect]; exact taken _ (k.countChoice.setEngine _)

theorem State.portsSound.abortReaches (k : s.portsSound) : s.abortReaches.portsSound := by
  unfold State.abortReaches
  split
  · exact k
  · split
    · split
      · exact k.discardPartial.stopReading
      · exact k.setEngine _
    · split
      · exact k.setEngine _
      · split
        · exact k.endService
        · exact k
    · exact k.pinnedAbort
    · exact k

end

end Sys2Proof.Machine
end

section
/-! SUPPORT. The commands, against sound ports: what a block answers has room in the response buffer, and a port keeps its state, its
command and the withdrawal of its host together. -/

namespace Sys2Proof.Machine

-- One proof at a time: proofs elaborated side by side need more threads than the memory limit of the check leaves room for.
set_option Elab.async false

section
variable {s t : State} {h : HostNo} {c : CtxNo} {n : LineNo}

/-! ## The commands that a block takes (chapters 1, 2, 3 and 8) -/

/-- What a block has done and answered: the ports are sound, and the response buffer has room for the answer (R150). -/
def Answered (r : State × Reply) : Prop := r.1.portsSound ∧ r.2.bytes.length ≤ 16

theorem State.portsSound.take {cmd : Cmd} {run : List Byte → State → State × Reply} (k : s.portsSound)
    (runs : ∀ ps, Answered (run ps s)) : (s.take h cmd run).portsSound := by
  unfold State.take
  split
  · split
    · obtain ⟨sound, room⟩ := runs _
      exact sound.reply room
    · exact k
  · exact k

/-- A result code is one byte. -/
theorem Answered.code (k : s.portsSound) (r : Result) : Answered (s, .of r) := ⟨k, by simp [Reply.of, Reply.bytes]⟩

/-- A refusal of CLM and OPW is two bytes (R9, R31). -/
theorem Answered.refuseTwo (k : s.portsSound) (r : Result) : Answered (s, Machine.refuseTwo r) :=
  ⟨k, by simp [Machine.refuseTwo, Reply.bytes]⟩

theorem Answered.onCtx (k : s.portsSound) {ps : List Byte} {accept : CtxState → Bool} {run : CtxNo → State × Reply}
    (runs : ∀ c, Answered (run c)) : Answered (s.onCtx h ps accept run) := by
  unfold State.onCtx
  split
  · exact .code k _
  · exact runs _

theorem Answered.claim (k : s.portsSound) (ps : List Byte) : Answered (State.claim h ps s) := by
  have claimed : ∀ c, Answered (s.takeClaim h c) := fun c => ⟨k.setCtx _, by simp [State.takeClaim, Reply.bytes]⟩
  unfold State.claim
  dsimp only
  split
  · split
    · exact claimed _
    · exact .refuseTwo k _
  · split
    · exact .refuseTwo k _
    · split
      · exact claimed _
      · exact .refuseTwo k _

theorem Answered.release (k : s.portsSound) (ps : List Byte) : Answered (State.release h ps s) :=
  .onCtx k fun _ => .code (k.setCtx _) _

theorem Answered.setPart (k : s.portsSound) (x : Option Ctx) : Answered (s.setPart c x) := by
  cases x with
  | none => exact .code k _
  | some x => exact .code (k.setCtx x) _

theorem Answered.setSource (k : s.portsSound) (ps : List Byte) : Answered (State.setSource h ps s) :=
  .onCtx k fun _ => .setPart k _

theorem Answered.setDest (k : s.portsSound) (ps : List Byte) : Answered (State.setDest h ps s) :=
  .onCtx k fun _ => .setPart k _

theorem Answered.setCount (k : s.portsSound) (ps : List Byte) : Answered (State.setCount h ps s) :=
  .onCtx k fun _ => .setPart k _

theorem Answered.setMode (k : s.portsSound) (ps : List Byte) : Answered (State.setMode h ps s) :=
  .onCtx k fun _ => .setPart k _

theorem Answered.setPattern (k : s.portsSound) (ps : List Byte) : Answered (State.setPattern h ps s) :=
  .onCtx k fun _ => .setPart k _

theorem Answered.setLink (k : s.portsSound) (ps : List Byte) : Answered (State.setLink h ps s) := by
  refine .onCtx k fun c => ?_
  dsimp only
  split
  · exact .setPart k _
  · split
    · exact .code k _
    · split
      · exact .code k _
      · split
        · exact .code k _
        · exact .setPart k _

theorem Answered.start (k : s.portsSound) (ps : List Byte) : Answered (State.start h ps s) := by
  refine .onCtx k fun c => ?_
  split
  · exact .code k _
  · exact .code (k.aside (by simp) (by simp)) _

theorem Answered.suspend (k : s.portsSound) (ps : List Byte) : Answered (State.suspend h ps s) := by
  refine .onCtx k fun c => ?_
  dsimp only
  split
  · exact ⟨k.setCtx _, by simp [Reply.bytes]⟩
  · exact .code (k.aside (by simp) (by simp)) _

theorem Answered.resume (k : s.portsSound) (ps : List Byte) : Answered (State.resume h ps s) :=
  .onCtx k fun _ => .code (k.aside (by simp) (by simp)) _

theorem Answered.abort (k : s.portsSound) (ps : List Byte) : Answered (State.abort h ps s) := by
  refine .onCtx k fun c => ?_
  dsimp only
  split
  · refine ⟨(k.setCtx _).abortReaches, ?_⟩
    dsimp only
    split
    · simp [Reply.bytes]
    · simp [Reply.of, Reply.bytes]
  · exact .code (k.aside (by simp) (by simp)) _

/-- The report of a context is 14 bytes (Table 10-8). -/
theorem Answered.query (k : s.portsSound) (ps : List Byte) : Answered (State.query h ps s) :=
  .onCtx k fun _ => ⟨k, by simp [Reply.bytes, qryBytes, addrBytes, halfBytes]⟩

theorem Answered.openWindow (k : s.portsSound) (ps : List Byte) : Answered (State.openWindow h ps s) := by
  unfold State.openWindow
  dsimp only
  split
  · exact .refuseTwo k _
  · split
    · exact .refuseTwo k _
    · split
      · split
        · exact ⟨k.aside (fun _ => rfl) fun _ => rfl, by simp [Reply.bytes]⟩
        · exact .refuseTwo k _
      · exact .refuseTwo k _

theorem Answered.closeWindow (k : s.portsSound) (ps : List Byte) : Answered (State.closeWindow h ps s) := by
  unfold State.closeWindow
  split
  · exact .code k _
  · dsimp only
    split
    · exact .code k _
    · split
      · exact .code k _
      · split
        · exact .code k _
        · exact .code (k.aside (fun _ => rfl) fun _ => rfl) _

/-- The report of a window is 13 bytes (Table 10-9). -/
theorem Answered.queryWindow (k : s.portsSound) (ps : List Byte) : Answered (State.queryWindow h ps s) := by
  unfold State.queryWindow
  split
  · exact .code k _
  · dsimp only
    split
    · exact .code k _
    · split
      · exact ⟨k, by simp [Reply.bytes, qwnBytes, addrBytes]⟩
      · exact .code k _

theorem Answered.setOwnWeight (k : s.portsSound) (ps : List Byte) : Answered (State.setOwnWeight h ps s) := by
  unfold State.setOwnWeight
  dsimp only
  split
  · exact .code k _
  · split
    · exact .code k _
    · exact .code (k.aside (by simp) (by simp)) _

/-- A record is answered with at most 13 bytes (Table 10-10). -/
theorem recordResponse_length (r : Record) : (recordResponse r).length ≤ 13 := by
  unfold recordResponse Record.bytes
  split <;> simp [halfBytes, addrBytes]

theorem Answered.record (k : s.portsSound) (r : Record) : Answered (s, .answer (recordResponse r)) :=
  ⟨k, (recordResponse_length r).trans (by decide)⟩

theorem Answered.takeRecord (k : s.portsSound) (ps : List Byte) : Answered (State.takeRecord h ps s) := by
  unfold State.takeRecord
  split
  · exact .code k _
  · exact .record (k.aside (by simp) (by simp)) _

theorem Answered.peekRecord (k : s.portsSound) (ps : List Byte) : Answered (State.peekRecord h ps s) := by
  unfold State.peekRecord
  split
  · exact .code k _
  · exact .record k _

/-! ## The accesses of a port (chapter 9) -/

/-- A port that can take a command byte holds no command and no withdrawal. -/
theorem PortSound.free {p : Port} {o : Option Withdrawal} (sound : PortSound p o) (takes : p.state = .idle ∨ p.state = .collecting) :
    p.passed = none ∧ o = none := by
  rcases takes with idle | collecting
  · obtain ⟨-, -, -, passed, rests⟩ := (PortSound.idle_iff idle).1 sound
    exact ⟨passed, rests⟩
  · obtain ⟨-, -, -, passed, rests⟩ := (PortSound.collecting_iff collecting).1 sound
    exact ⟨passed, rests⟩

/-- A port that takes a command byte passes it, collects for it, or carries it out, and each leaves it sound (R151, R153). -/
theorem State.portsSound.latchCommand (k : s.portsSound) (takes : (s.port h).state = .idle ∨ (s.port h).state = .collecting)
    (b : Byte) : (s.latchCommand h b).portsSound := by
  obtain ⟨passed, rests⟩ := (k h).free takes
  cases assigned : Cmd.ofCode b with
  | none =>
    rw [State.latchCommand_unassigned assigned]
    exact k.setPort ((PortSound.idle_iff rfl).2 ⟨rfl, rfl, by simp, passed, rests⟩)
  | some cmd =>
    by_cases resigns : cmd = .rsn
    · rw [Cmd.code_of_ofCode assigned, resigns]
      change (s.latchCommand h 0x61).portsSound
      rw [State.latchCommand_rsn]
      refine (k.withdraws ((PortSound.left_iff (.inl rfl)).2 ⟨rfl, rfl, rfl, fun _ => rfl, fun some => ?_,
        fun waits => absurd waits (by decide)⟩)).reevaluate
      simp [passed] at some
    · rw [State.latchCommand_assigned assigned resigns]
      refine k.setPort ?_
      unfold Port.commanded
      split
      · next parameters => exact (PortSound.collecting_iff rfl).2 ⟨parameters, by simp [assigned], rfl, passed, rests⟩
      · exact (PortSound.executing_iff rfl).2 ⟨rfl, rfl, rfl, rfl, rests⟩

/-- A byte that is dropped sets OVR, and a read touches the data lines, OVR and at most one byte of the response (R151, R152, R155,
R156). -/
theorem State.portsSound.access (k : s.portsSound) {p : Port}
    (response : p.response = (s.port h).response ∨ p.response = (s.port h).response.tail)
    (same : p = { s.port h with pd := p.pd, ovr := p.ovr, response := p.response }) : (s.setPort h p).portsSound := by
  obtain ⟨collecting, resting, empty, room, withdrawing, withdrawn, executing, passed, begin⟩ := k h
  have empties : (s.port h).state ≠ .idle → p.response = [] := fun busy => by
    rcases response with e | e <;> rw [e, empty busy]
    rfl
  have shorter : p.response.length ≤ 16 := by
    rcases response with e | e <;> rw [e]
    · exact room
    · rw [List.length_tail]; omega
  rw [same]
  exact k.setPort ⟨collecting, resting, empties, shorter, withdrawing, withdrawn, executing, passed, begin⟩

theorem State.portsSound.commandByte (k : s.portsSound) (b : Byte) (e : exec (.commandByte h b) s = .next t) : t.portsSound := by
  obtain ⟨dropped, -, ignored⟩ := commandByteTakenOrDropped.1 s h b
  cases state : (s.port h).state with
  | idle =>
    rw [← next_inj ((exec_commandByte_taken (.inl state)).symm.trans e)]
    exact k.latchCommand (.inl state) b
  | collecting =>
    rw [← next_inj ((exec_commandByte_taken (.inr state)).symm.trans e)]
    exact k.latchCommand (.inr state) b
  | executing => rw [← next_inj ((dropped (.inl state)).symm.trans e)]; exact k.access (.inl rfl) rfl
  | withdrawing => rw [← next_inj ((dropped (.inr state)).symm.trans e)]; exact k.access (.inl rfl) rfl
  | resetHeld => rw [← next_inj ((ignored state).1.symm.trans e)]; exact k

/-- The bytes collected and owed stay those of the command latched; the last of them passes it (R152, R153). -/
theorem State.portsSound.collect (k : s.portsSound) (b : Byte) (collecting : (s.port h).state = .collecting)
    (e : exec (.parameterByte h b) s = .next t) : t.portsSound := by
  obtain ⟨owed, command, response, passed, rests⟩ := (PortSound.collecting_iff collecting).1 (k h)
  obtain ⟨cmd, assigned, count⟩ := Option.map_eq_some_iff.1 command
  obtain ⟨code, latch, decoded⟩ := Option.bind_eq_some_iff.1 assigned
  obtain ⟨more, last⟩ := parameterByteCollected s h b code cmd collecting latch decoded
  obtain one | ⟨n, many⟩ : (s.port h).owed = 1 ∨ ∃ n, (s.port h).owed = n + 2 := by
    rcases Nat.lt_or_ge 1 (s.port h).owed with several | one
    · exact .inr ⟨(s.port h).owed - 2, by omega⟩
    · exact .inl (by omega)
  · rw [← next_inj ((last one).symm.trans e)]
    exact k.setPort ((PortSound.executing_iff rfl).2 ⟨rfl, rfl, response, rfl, rests⟩)
  · rw [← next_inj ((more n many).symm.trans e)]
    refine k.setPort ((PortSound.collecting_iff (by exact collecting)).2 ⟨Nat.succ_pos n, ?_, response, passed, rests⟩)
    rw [command, List.length_append, many]
    simp only [List.length_singleton, Option.some.injEq]
    omega

theorem State.portsSound.parameterByte (k : s.portsSound) (b : Byte) (e : exec (.parameterByte h b) s = .next t) :
    t.portsSound := by
  obtain ⟨-, dropped, ignored⟩ := commandByteTakenOrDropped.1 s h b
  cases state : (s.port h).state with
  | idle => rw [← next_inj ((dropped (.inl state)).symm.trans e)]; exact k.access (.inl rfl) rfl
  | collecting => exact k.collect b state e
  | executing => rw [← next_inj ((dropped (.inr (.inl state))).symm.trans e)]; exact k.access (.inl rfl) rfl
  | withdrawing => rw [← next_inj ((dropped (.inr (.inr state))).symm.trans e)]; exact k.access (.inl rfl) rfl
  | resetHeld => rw [← next_inj ((ignored state).2.symm.trans e)]; exact k

theorem State.portsSound.statusRead (k : s.portsSound) (e : exec (.statusRead h) s = .next t) : t.portsSound := by
  by_cases held : (s.port h).state = .resetHeld
  · rw [← next_inj ((exec_statusRead_held held).symm.trans e)]
    exact k.access (.inl rfl) rfl
  · rw [← next_inj ((exec_statusRead held).symm.trans e)]
    exact k.access (.inl rfl) rfl

theorem State.portsSound.responseRead (k : s.portsSound) (e : exec (.responseRead h) s = .next t) : t.portsSound := by
  obtain ⟨oldest, none, ignored⟩ := responseByteRead s h
  by_cases held : (s.port h).state = .resetHeld
  · rw [← next_inj ((ignored held).symm.trans e)]
    exact k.access (.inl rfl) rfl
  · cases waits : (s.port h).response with
    | nil =>
      rw [← next_inj ((none held waits).symm.trans e)]
      exact k.access (.inl rfl) rfl
    | cons r rest =>
      rw [← next_inj ((oldest held r rest waits).symm.trans e)]
      exact k.access (.inr (by rw [waits]; rfl)) rfl

theorem Port.takesCommand_iff (p : Port) : p.takesCommand = true ↔ p.state = .idle ∨ p.state = .collecting := by
  simp [Port.takesCommand]

theorem State.portsSound.rsn (k : s.portsSound) (e : exec (.rsn h) s = .next t) : t.portsSound := by
  rw [← next_inj e]
  split
  · next takes => exact k.latchCommand ((s.port h).takesCommand_iff.1 takes) _
  · exact k

theorem State.portsSound.badCmd (k : s.portsSound) {b : Byte} (e : exec (.badCmd h b) s = .next t) : t.portsSound := by
  rw [← next_inj e]
  split
  · next takes => exact k.latchCommand ((s.port h).takesCommand_iff.1 takes.1) _
  · exact k

/-- A command that the block has still to take is with the port, as passed. -/
theorem State.toTake_some {q : Passed} (untaken : s.toTake h = some q) :
    (s.port h).passed = some q ∧ q.waiting = none := by
  unfold State.toTake at untaken
  split at untaken
  · next p passed =>
    split at untaken
    · next waits =>
      cases untaken
      exact ⟨passed, waits⟩
    · cases untaken
  · cases untaken

/-- A withdrawal waits for the block to take the command, and the port keeps that command for it (R163, log 3). -/
theorem State.portsSound.prstAssertion (k : s.portsSound) (e : exec (.prstAssertion h) s = .next t) : t.portsSound := by
  by_cases held : (s.port h).state = .resetHeld
  · rw [← next_inj (((portResetAsserted s h).1 held).symm.trans e)]
    exact k
  · cases withdraws : s.wd h with
    | some w =>
      rw [← next_inj ((exec_prstAssertion_goesOn held withdraws).symm.trans e)]
      have sound := k h
      rw [withdraws] at sound
      obtain ⟨-, -, -, -, passed, begin⟩ := (PortSound.left_iff sound.left_of_withdraws).1 sound
      refine k.withdraws ((PortSound.left_iff (.inr rfl)).2 ⟨rfl, rfl, rfl, nofun, fun some => ?_, fun waits => ?_⟩)
      · obtain ⟨q, untaken⟩ := Option.isSome_iff_exists.1 some
        exact passed (by rw [(State.toTake_some untaken).1]; rfl)
      · obtain ⟨q, isPassed, waiting⟩ := Option.map_eq_some_iff.1 (begin waits)
        simp [Port.resetBy, State.toTake, isPassed, waiting]
    | none =>
      cases untaken : s.toTake h with
      | some q =>
        rw [← next_inj ((exec_prstAssertion_waits held withdraws untaken).symm.trans e)]
        refine k.withdraws ((PortSound.left_iff (.inr rfl)).2 ⟨rfl, rfl, rfl, nofun, fun _ => rfl, fun _ => ?_⟩)
        simp [Port.resetBy, (State.toTake_some untaken).2]
      | none =>
        rw [← next_inj ((exec_prstAssertion_begins held withdraws untaken).symm.trans e)]
        exact (k.withdraws ((PortSound.left_iff (.inr rfl)).2 ⟨rfl, rfl, rfl, by simp [Port.resetBy], by simp [Port.resetBy],
          fun waits => absurd waits (by decide)⟩)).reevaluate

theorem State.portsSound.prstRelease (k : s.portsSound) (e : exec (.prstRelease h) s = .next t) : t.portsSound := by
  obtain ⟨completed, goesOn, ignored⟩ := portResetReleased s h
  by_cases held : (s.port h).state = .resetHeld
  · obtain ⟨owed, collect, response, -, passed, begin⟩ := (PortSound.left_iff (.inr held)).1 (k h)
    cases withdraws : s.wd h with
    | none =>
      rw [← next_inj ((completed held withdraws).symm.trans e)]
      refine k.setPort ((PortSound.idle_iff rfl).2 ⟨rfl, rfl, by simp, ?_, withdraws⟩)
      exact (k h).passed_none (by simp [held]) (by rw [withdraws]; rfl)
    | some w =>
      rw [← next_inj ((goesOn held w withdraws).symm.trans e)]
      exact k.setPort ((PortSound.left_iff (.inl rfl)).2
        ⟨owed, collect, response, fun _ => by rw [withdraws]; rfl, passed, begin⟩)
  · rw [← next_inj ((ignored held).symm.trans e)]
    exact k

/-! ## The steps of a withdrawal (R161) -/

theorem State.portsSound.goesOn (k : s.portsSound) {w y : Withdrawal} (withdraws : s.wd h = some w) (before : w.step ≠ .begin)
    (after : y.step ≠ .begin) : (s.setWd h (some y)).portsSound := by
  have sound := k h
  rw [withdraws] at sound
  exact k.setWd (sound.goesOn before after)

theorem State.portsSound.cutStep (k : s.portsSound) {w : Withdrawal} (withdraws : s.wd h = some w) (begun : w.step ≠ .begin) :
    (s.cutStep h w).portsSound := by
  unfold State.cutStep
  split
  · exact k.goesOn withdraws begun nofun
  · exact k.cutService (by simp [withdraws, Withdrawal.notBegun, begun])

/-- The port at the end of its withdrawal: IDLE from WITHDRAWING, and RESET-HELD until its release (R160, R162). -/
theorem PortSound.completed {p : Port} {w : Withdrawal} (sound : PortSound p (some w)) (begun : w.step ≠ .begin) (byRsn : Bool) :
    PortSound (p.withdrawn byRsn) none := by
  have left := sound.left_of_withdraws
  obtain ⟨owed, collect, response, -, -, -⟩ := (PortSound.left_iff left).1 sound
  have unexecuting : p.state ≠ .executing := by rcases left with e | e <;> simp [e]
  have passed : p.passed = none := sound.passed_none unexecuting (by simp [Withdrawal.notBegun, begun])
  unfold Port.withdrawn
  split
  · split
    · exact (PortSound.idle_iff rfl).2 ⟨owed, collect, by simp, passed, rfl⟩
    · exact (PortSound.idle_iff rfl).2 ⟨owed, collect, by simp, passed, rfl⟩
  · next held =>
    exact (PortSound.left_iff left).2 ⟨owed, collect, response, fun e => absurd e held, by simp [passed],
      fun waits => absurd waits (by decide)⟩

theorem State.portsSound.completeWithdrawal (k : s.portsSound) {w : Withdrawal} (withdraws : s.wd h = some w)
    (begun : w.step ≠ .begin) : (s.completeWithdrawal h).portsSound := by
  have sound := k h
  rw [withdraws] at sound
  unfold State.completeWithdrawal
  rw [withdraws]
  exact k.withdraws (sound.completed begun w.byRsn)

theorem State.portsSound.nextStep (k : s.portsSound) {w : Withdrawal} (withdraws : s.wd h = some w) :
    (s.nextStep h w).portsSound := by
  have cuts : w.step ≠ .begin → (if s.servedHost = some h then s.cutStep h w
      else s.setWd h (some { w with step := .contexts })).portsSound := by
    intro begun
    split
    · exact k.cutStep withdraws begun
    · exact k.goesOn withdraws begun nofun
  unfold State.nextStep
  split
  · next step =>
    have waits : Withdrawal.notBegun (s.wd h) = true := by simp [withdraws, Withdrawal.notBegun, step]
    obtain ⟨q, passed, -⟩ := Option.map_eq_some_iff.1 ((k h).begin waits)
    rw [if_pos (by rw [passed]; rfl)]
    exact k
  · next step => exact cuts (by simp [step])
  · next step => exact cuts (by simp [step])
  · next step =>
    have freed : (s.freeContexts h).portsSound := k.aside (by simp) (by simp)
    refine State.portsSound.reevaluate ?_
    exact freed.goesOn (by simpa using withdraws) (by simp [step]) nofun
  · next step =>
    have closed : (s.withdrawWindows h).portsSound := k.aside (by simp) (by simp)
    exact closed.goesOn (by simpa using withdraws) (by simp [step]) nofun
  · next step =>
    have emptied : (s.emptyQueue h).portsSound := k.aside (by simp) (by simp)
    exact emptied.goesOn (by simpa using withdraws) (by simp [step]) nofun
  · next step =>
    have weighed : (s.resetWeight h).portsSound := k.aside (by simp) (by simp)
    exact (weighed.completeWithdrawal (by simpa using withdraws) (by simp [step])).reevaluate

theorem State.portsSound.nextWithdrawalStep (k : s.portsSound) (e : exec (.nextWithdrawalStep h) s = .next t) : t.portsSound := by
  rw [← next_inj e]
  split
  · next w withdraws => exact k.nextStep withdraws
  · exact k

theorem State.portsSound.serviceCut (k : s.portsSound) (e : exec .serviceCut s = .next t) : t.portsSound := by
  rw [← next_inj e]
  split
  · split
    · next w withdraws =>
      split
      · next step => exact k.cutStep withdraws (by rcases step with e | e <;> simp [e])
      · exact k
    · exact k
  · exact k

/-! ## The arrivals on the bus and on the lines -/

theorem State.portsSound.grantArrival (k : s.portsSound) (e : exec .grantArrival s = .next t) : t.portsSound := by
  rw [← next_inj e]
  split
  · exact ((k.setEngine _).pastLate .expiry).takeGrant
  · exact k.setEngine _

theorem State.portsSound.grantWithdrawal (k : s.portsSound) (e : exec .grantWithdrawal s = .next t) : t.portsSound := by
  rw [← next_inj e]
  split
  · exact k.setEngine _
  · dsimp only
    split
    · exact (k.setEngine _).setEngine _
    · exact ((k.setEngine _).setEngine _).settleLoss

theorem State.portsSound.ackTimeout (k : s.portsSound) (e : exec .ackTimeout s = .next t) : t.portsSound := by
  rw [← next_inj e]
  split
  · exact k.onBeat _ fun u sound => sound.failBeat .timeout
  · exact k.pastLate .expiry

theorem State.portsSound.requestAsserted (k : s.portsSound) (e : exec (.requestObservedAsserted n) s = .next t) :
    t.portsSound := by
  have seen : (s.setLine n { s.line n with level := true }).portsSound := k.aside (fun _ => rfl) fun _ => rfl
  rw [← next_inj e]
  split
  · exact seen.reevaluate
  · exact seen

theorem State.portsSound.dropRequest (k : s.portsSound) (c : CtxNo) : (s.dropRequest c).portsSound := by
  unfold State.dropRequest
  split
  · split
    · exact k.setEngine _
    · exact k
  · exact k

theorem State.portsSound.requestDeasserted (k : s.portsSound) (e : exec (.requestObservedDeasserted n) s = .next t) :
    t.portsSound := by
  have written : ∀ x, (s.setLine n x).portsSound := fun x => k.aside (fun _ => rfl) fun _ => rfl
  rw [← next_inj e]
  split
  · exact ((written _).dropRequest _).reevaluate
  · exact written _

/-- With no command waiting the part selects, or issues the first beat of a service. -/
theorem State.portsSound.goOn (k : s.portsSound) : s.goOn.portsSound := by
  have past := k.pastLate .expiry
  unfold State.goOn
  split
  · split
    · exact past.selectNow false
    · exact past.issueBeat
    · exact past.issueBeat
    · exact past.issueBeat
    · exact k
    · exact k
  · exact k

/-! ## Every command -/

/-- A command that its block takes. -/
theorem State.portsSound.taken {cmd : Cmd} {run : List Byte → State → State × Reply} (k : s.portsSound)
    (e : (Host.Outcome.next (s.take h cmd run) : Host.Outcome State Fault Refusal) = .next t)
    (runs : ∀ ps, Answered (run ps s)) : t.portsSound := by
  rw [← next_inj e]
  exact k.take runs

theorem State.portsSound.exec (k : s.portsSound) {i : Instr} (e : exec i s = .next t) : t.portsSound := by
  cases i with
  | commandByte h b => exact k.commandByte b e
  | parameterByte h b => exact k.parameterByte b e
  | statusRead h => exact k.statusRead e
  | responseRead h => exact k.responseRead e
  | clm h => exact k.taken e (.claim k)
  | rel h => exact k.taken e (.release k)
  | src h => exact k.taken e (.setSource k)
  | dst h => exact k.taken e (.setDest k)
  | cnt h => exact k.taken e (.setCount k)
  | mod h => exact k.taken e (.setMode k)
  | pat h => exact k.taken e (.setPattern k)
  | lnk h => exact k.taken e (.setLink k)
  | sta h => exact k.taken e (.start k)
  | sus h => exact k.taken e (.suspend k)
  | rsm h => exact k.taken e (.resume k)
  | abt h => exact k.taken e (.abort k)
  | qry h => exact k.taken e (.query k)
  | opw h => exact k.taken e (.openWindow k)
  | clw h => exact k.taken e (.closeWindow k)
  | qwn h => exact k.taken e (.queryWindow k)
  | wgt h => exact k.taken e (.setOwnWeight k)
  | tke h => exact k.taken e (.takeRecord k)
  | pek h => exact k.taken e (.peekRecord k)
  | rsn h => exact k.rsn e
  | badCmd h code => exact k.badCmd e
  | prstAssertion h => exact k.prstAssertion e
  | prstRelease h => exact k.prstRelease e
  | reset => exact next_inj ((exec_reset s).symm.trans e) ▸ s.reset_port
  | grantArrival => exact k.grantArrival e
  | grantWithdrawal => exact k.grantWithdrawal e
  | beatAnswer a ld term => exact next_inj e ▸ k.onBeat _ fun u sound => sound.answerBeat a ld term
  | faultAnswer code => exact next_inj e ▸ k.onBeat _ fun u sound => sound.failBeat .fault
  | ackTimeout => exact k.ackTimeout e
  | requestObservedAsserted n => exact k.requestAsserted e
  | requestObservedDeasserted n => exact k.requestDeasserted e
  | serviceCut => exact k.serviceCut e
  | nextWithdrawalStep h => exact k.nextWithdrawalStep e

end

/-- Settles O53: a step is that of its front command, or goes on with none waiting, and each keeps every port sound. -/
theorem portsStaySound : Obligations.PortsStaySound := by
  intro s t k e
  unfold step at e
  split at e
  · next i rest _ =>
    have waiting : State.portsSound { s with pending := rest } := k
    exact waiting.exec e
  · rw [← next_inj e]
    exact k.goOn

end Sys2Proof.Machine
end

section
/-! SUPPORT. The steps of a withdrawal (R161), settled one by one. Step 3 frees the contexts of the host one after another: what a
window or a line has lost in the end is the sum of what each of them held. -/

namespace Sys2Proof.Machine

-- One proof at a time: proofs elaborated side by side need more threads than the memory limit of the check leaves room for.
set_option Elab.async false

/-! ## References given up one after another (R40, R45) -/

/-- A window that has lost `n` references, and is closed with the last of them where it was ORPHAN. -/
def Window.releasedBy (w : Window) (n : Nat) : Window :=
  if 0 < n ∧ w.state = .orphan ∧ w.refs ≤ n then
    { w with state := .closed, creator := none, share := 0, learned := none, demoted := false, refs := 0 }
  else { w with refs := w.refs - n }

theorem Window.releasedBy_zero (w : Window) : w.releasedBy 0 = w := if_neg (by simp)

theorem Window.releasedBy_closed {w : Window} (closed : w.state ≠ .orphan) (n : Nat) :
    w.releasedBy n = { w with refs := w.refs - n } := if_neg fun last => closed last.2.1

theorem Window.releasedBy_add (w : Window) (n m : Nat) : (w.releasedBy n).releasedBy m = w.releasedBy (n + m) := by
  by_cases last : 0 < n ∧ w.state = .orphan ∧ w.refs ≤ n
  · obtain ⟨some, orphan, all⟩ := last
    have closes : ∀ k, n ≤ k → w.releasedBy k = { w.close with refs := 0 } :=
      fun k more => if_pos ⟨by omega, orphan, by omega⟩
    rw [closes n (Nat.le_refl n), closes (n + m) (Nat.le_add_right n m), Window.releasedBy_closed (by simp [Window.close]), Nat.zero_sub]
  · have counted : w.releasedBy n = { w with refs := w.refs - n } := if_neg last
    rw [counted]
    refine if_congr ?_ rfl (by rw [Nat.sub_sub])
    change 0 < m ∧ w.state = .orphan ∧ w.refs - n ≤ m ↔ 0 < n + m ∧ w.state = .orphan ∧ w.refs ≤ n + m
    by_cases orphan : w.state = .orphan
    · simp only [orphan, true_and] at last ⊢
      omega
    · simp [orphan]

section
variable {s t : State} {h : HostNo} {c : CtxNo}

theorem Released.window (r : Released s t c) (u : WinNo) :
    t.window u = (s.window u).releasedBy ((s.ctx c).roles u) := r.windows u

/-! ## One context freed (R28) -/

theorem State.window_freeCtx (s : State) (h : HostNo) (c : CtxNo) (u : WinNo) :
    (s.freeCtx h c).window u = (s.window u).releasedBy ((s.ctx c).share u) := by
  rw [State.freeCtx_eq]
  split
  · next started =>
    rw [Ctx.share_started started]
    exact (State.releaseResources_released (s.offLists h c) c).window u
  · next unstarted =>
    rw [Ctx.share_unstarted (by simpa using unstarted), Window.releasedBy_zero]
    rfl

/-- A line without its context (R122). -/
def Line.unbound (l : Line) : Line := { l with bound := none, armed := false }

theorem State.line_freeCtx (s : State) (h : HostNo) (c : CtxNo) (n : LineNo) :
    (s.freeCtx h c).line n =
      if (s.ctx c).state.started = true ∧ (s.ctx c).trigger.lineNo = some n ∧ (s.line n).bound = some c then (s.line n).unbound
      else s.line n := by
  rw [State.freeCtx_eq]
  split
  · next started =>
    simp only [started, true_and]
    exact State.line_releaseResources (s.offLists h c) c n
  · next unstarted => rw [if_neg fun held => unstarted held.1]; rfl

/-- The state with the tables put aside that the freeing of contexts writes. -/
def State.withoutTables (t s : State) : State :=
  { t with
    ctxs := s.ctxs, windows := s.windows, lines := s.lines, cqs := s.cqs, sched := { t.sched with ready := s.sched.ready } }

theorem State.eq_of_withoutTables (kept : t.withoutTables s = s) :
    t = { s with
      ctxs := t.ctxs, windows := t.windows, lines := t.lines, cqs := t.cqs, sched := { s.sched with ready := t.sched.ready } } :=
  (congrArg (State.withoutTables · t) kept :)

theorem State.withoutTables_freeCtx (t s : State) (h : HostNo) (c : CtxNo) :
    (t.freeCtx h c).withoutTables s = t.withoutTables s := by
  rw [State.freeCtx_eq]
  split
  · rw [State.releaseResources_frame]
    rfl
  · rfl

/-! ## The contexts of a list freed, where they are the host's -/

/-- Context `c` freed, if it is host `h`'s. -/
def State.freeOwned (h : HostNo) (s : State) (c : CtxNo) : State := if (s.ctx c).owner = some h then s.freeCtx h c else s

theorem State.freeContexts_eq (s : State) (h : HostNo) : s.freeContexts h = allCtxs.foldl (State.freeOwned h) s := rfl

/-- What `c` holds on window `u`, where it is host `h`'s. -/
def State.heldBy (s : State) (h : HostNo) (u : WinNo) (c : CtxNo) : Nat :=
  if (s.ctx c).owner = some h then (s.ctx c).share u else 0

theorem State.usesBy_eq (s : State) (h : HostNo) (u : WinNo) : s.usesBy h u = (allCtxs.map (s.heldBy h u)).sum := by
  refine congrArg List.sum (List.map_congr_left fun c _ => ?_)
  by_cases owner : (s.ctx c).owner = some h
  · by_cases started : (s.ctx c).state.started = true
    · simp [State.heldBy, owner, started, Ctx.share_started started]
    · simp [State.heldBy, started, Ctx.share_unstarted (Bool.eq_false_iff.2 started)]
  · simp [State.heldBy, owner]

theorem State.ctx_freeOwned_ne {d : CtxNo} (other : d ≠ c) : (s.freeOwned h c).ctx d = s.ctx d := by
  unfold State.freeOwned
  split
  · exact s.ctx_freeCtx_ne h other
  · rfl

theorem State.ctx_freeOwned_self :
    (s.freeOwned h c).ctx c = if (s.ctx c).owner = some h then (s.ctx c).withdrawn else s.ctx c := by
  unfold State.freeOwned
  split
  · exact s.ctx_freeCtx_self h c
  · rfl

theorem State.window_freeOwned (u : WinNo) : (s.freeOwned h c).window u = (s.window u).releasedBy (s.heldBy h u c) := by
  unfold State.freeOwned State.heldBy
  split
  · exact s.window_freeCtx h c u
  · rw [Window.releasedBy_zero]

theorem State.ctx_freeList {l : List CtxNo} (once : l.Nodup) (d : CtxNo) : ∀ s : State,
    (l.foldl (State.freeOwned h) s).ctx d = if d ∈ l ∧ (s.ctx d).owner = some h then (s.ctx d).withdrawn else s.ctx d := by
  induction l with
  | nil => simp
  | cons c l ih =>
    intro s
    obtain ⟨apart, once⟩ := List.nodup_cons.1 once
    rw [List.foldl_cons, ih once]
    by_cases same : d = c
    · subst same
      simp [apart, State.ctx_freeOwned_self]
    · simp [same, State.ctx_freeOwned_ne same]

theorem State.window_freeList {l : List CtxNo} (once : l.Nodup) (u : WinNo) : ∀ s : State,
    (l.foldl (State.freeOwned h) s).window u = (s.window u).releasedBy (l.map (s.heldBy h u)).sum := by
  induction l with
  | nil => exact fun s => (Window.releasedBy_zero _).symm
  | cons c l ih =>
    intro s
    obtain ⟨apart, once⟩ := List.nodup_cons.1 once
    have rest : l.map ((s.freeOwned h c).heldBy h u) = l.map (s.heldBy h u) := List.map_congr_left fun d listed => by
      have other : d ≠ c := fun same => apart (same ▸ listed)
      simp only [State.heldBy, State.ctx_freeOwned_ne other]
    rw [List.foldl_cons, ih once, rest, State.window_freeOwned, Window.releasedBy_add, List.map_cons, List.sum_cons]

/-- A line is bound to no context that does not hold it, of host `h`'s contexts. -/
def State.lineHeld (s : State) (h : HostNo) (n : LineNo) : Prop :=
  ∀ c, (s.line n).bound = some c → (s.ctx c).owner = some h →
    (s.ctx c).state.started = true ∧ (s.ctx c).trigger.lineNo = some n

/-- The line of a freed context loses it; another line does not see the context go. -/
theorem State.line_freeOwned {n : LineNo} (held : s.lineHeld h n) :
    (s.freeOwned h c).line n =
      if (s.line n).bound = some c ∧ (s.ctx c).owner = some h then (s.line n).unbound else s.line n := by
  unfold State.freeOwned
  split
  · next owner =>
    rw [State.line_freeCtx]
    refine if_congr ⟨fun all => ⟨all.2.2, owner⟩, fun bound => ?_⟩ rfl rfl
    obtain ⟨started, names⟩ := held c bound.1 owner
    exact ⟨started, names, bound.1⟩
  · next foreign => rw [if_neg fun bound => foreign bound.2]

/-- The contexts left to host `h` are the others. -/
theorem State.owner_freeOwned {d : CtxNo} :
    ((s.freeOwned h c).ctx d).owner = some h ↔ d ≠ c ∧ (s.ctx d).owner = some h := by
  by_cases same : d = c
  · subst same
    rw [State.ctx_freeOwned_self]
    split
    · exact ⟨nofun, fun other => absurd rfl other.1⟩
    · next foreign => exact ⟨fun owner => absurd owner foreign, fun other => absurd rfl other.1⟩
  · rw [State.ctx_freeOwned_ne same]
    exact ⟨fun owner => ⟨same, owner⟩, And.right⟩

theorem State.lineHeld.freeOwned {n : LineNo} (held : s.lineHeld h n) (c : CtxNo) : (s.freeOwned h c).lineHeld h n := by
  intro d bound owner
  obtain ⟨other, before⟩ := State.owner_freeOwned.1 owner
  rw [State.line_freeOwned held] at bound
  split at bound
  · cases bound
  · rw [State.ctx_freeOwned_ne other]
    exact held d bound before

theorem State.line_freeList (n : LineNo) (l : List CtxNo) : ∀ s : State, s.lineHeld h n →
    (l.foldl (State.freeOwned h) s).line n =
      if ∃ c ∈ l, (s.line n).bound = some c ∧ (s.ctx c).owner = some h then (s.line n).unbound else s.line n := by
  induction l with
  | nil => simp
  | cons c l ih =>
    intro s held
    rw [List.foldl_cons, ih _ (held.freeOwned c), State.line_freeOwned held]
    by_cases mine : (s.line n).bound = some c ∧ (s.ctx c).owner = some h
    · have gone : ¬∃ d ∈ l, (s.line n).unbound.bound = some d ∧ ((s.freeOwned h c).ctx d).owner = some h := by
        rintro ⟨d, -, bound, -⟩
        cases bound
      rw [if_pos mine, if_neg gone, if_pos ⟨c, List.mem_cons_self, mine⟩]
    · rw [if_neg mine]
      refine if_congr ⟨?_, ?_⟩ rfl rfl
      · rintro ⟨d, listed, bound, owner⟩
        exact ⟨d, List.mem_cons_of_mem c listed, bound, (State.owner_freeOwned.1 owner).2⟩
      · rintro ⟨d, listed, bound, owner⟩
        have other : d ≠ c := fun same => mine (same ▸ ⟨bound, owner⟩)
        exact ⟨d, (List.mem_cons.1 listed).resolve_left other, bound, State.owner_freeOwned.2 ⟨other, owner⟩⟩

/-! ## Step 3: the contexts of the host (R28) -/

theorem allCtxs_nodup : allCtxs.Nodup := List.nodup_finRange 16

theorem State.ctx_freeContexts (s : State) (h : HostNo) (c : CtxNo) :
    (s.freeContexts h).ctx c = if (s.ctx c).owner = some h then (s.ctx c).withdrawn else s.ctx c := by
  rw [State.freeContexts_eq, State.ctx_freeList allCtxs_nodup]
  simp [allCtxs]

theorem State.window_freeContexts (s : State) (h : HostNo) (u : WinNo) :
    (s.freeContexts h).window u = (s.window u).releasedBy (s.usesBy h u) := by
  rw [State.freeContexts_eq, State.window_freeList allCtxs_nodup, State.usesBy_eq]

theorem State.line_freeContexts (lines : s.linesSound) (h : HostNo) (n : LineNo) :
    (s.freeContexts h).line n =
      if ∃ c, (s.line n).bound = some c ∧ (s.ctx c).owner = some h then (s.line n).unbound else s.line n := by
  rw [State.freeContexts_eq, State.line_freeList n _ s fun c bound _ => (lines n c).1 bound]
  simp [allCtxs]

/-- The lists of the other hosts do not see the contexts go. -/
theorem State.readyList_freeContexts_ne (s : State) {g : HostNo} (other : g ≠ h) :
    (s.freeContexts h).readyList g = s.readyList g := by
  refine foldl_keeps (State.freeOwned h) (·.readyList g) (fun t c => ?_) _ s
  unfold State.freeOwned
  split
  · rw [State.freeCtx_eq, State.readyList_setCtx]
    split <;> simp [State.offLists, State.readyList_leaveReady, other]
  · rfl

theorem State.cq_freeContexts_ne (s : State) {g : HostNo} (other : g ≠ h) : (s.freeContexts h).cq g = s.cq g := by
  refine foldl_keeps (State.freeOwned h) (·.cq g) (fun t c => ?_) _ s
  unfold State.freeOwned
  split
  · rw [State.freeCtx_eq, State.cq_setCtx]
    split <;> simp [State.offLists, State.cq_setCq, other]
  · rfl

/-- A completion queue with its held list put aside. -/
def Cq.withoutHeld (q : Cq) : Cq := { q with held := [] }

theorem Cq.eq_of_withoutHeld {q r : Cq} (kept : r.withoutHeld = q.withoutHeld) : r = { q with held := r.held } :=
  congrArg (fun x : Cq => { x with held := r.held }) kept

theorem State.withoutHeld_freeCtx (s : State) (h : HostNo) (c : CtxNo) (g : HostNo) :
    ((s.freeCtx h c).cq g).withoutHeld = (s.cq g).withoutHeld := by
  have off : ((s.offLists h c).cq g).withoutHeld = (s.cq g).withoutHeld := by
    rw [State.offLists, State.cq_setCq]
    split
    · next same => rw [same]; rfl
    · rfl
  rw [State.freeCtx_eq, State.cq_setCtx]
  split
  · rw [State.cq_releaseResources, off]
  · exact off

/-- The records stay in the queue. -/
theorem State.withoutHeld_freeContexts (s : State) (h g : HostNo) :
    ((s.freeContexts h).cq g).withoutHeld = (s.cq g).withoutHeld := by
  refine foldl_keeps (State.freeOwned h) (fun t => (t.cq g).withoutHeld) (fun t c => ?_) _ s
  unfold State.freeOwned
  split
  · exact t.withoutHeld_freeCtx h c g
  · rfl

theorem State.freeContexts_frame (s : State) (h : HostNo) :
    s.freeContexts h = { s with
      ctxs := (s.freeContexts h).ctxs, windows := (s.freeContexts h).windows, lines := (s.freeContexts h).lines
      cqs := (s.freeContexts h).cqs, sched := { s.sched with ready := (s.freeContexts h).sched.ready } } := by
  have kept : (s.freeContexts h).withoutTables s = s := by
    refine foldl_keeps (State.freeOwned h) (·.withoutTables s) (fun t c => ?_) _ s
    unfold State.freeOwned
    split
    · exact State.withoutTables_freeCtx t s h c
    · rfl
  exact State.eq_of_withoutTables kept

/-- A context that is host `h`'s is freed, and with it every entry that the host's lists have (R28, R48, R142). -/
theorem Sound.lists_freeContexts (sound : Sound s) (quiesced : s.quiesced h) :
    (s.freeContexts h).readyList h = [] ∧ ((s.freeContexts h).cq h).held = [] := by
  obtain ⟨kept, gone⟩ := (sound.core.kept fun _ => False).freeContexts id quiesced
  constructor
  · exact List.eq_nil_iff_forall_not_mem.2 fun c listed => gone c ((kept.table.ready h c).1 listed).2
  · exact List.eq_nil_iff_forall_not_mem.2 fun c listed => gone c ((kept.table.held h c).1 listed).2

/-- The state `t` is `s` with the contexts of host `h` freed (R28): its lists are empty, each window has lost what they held of it,
and their lines are unbound. -/
structure ContextsFreed (s : State) (h : HostNo) (t : State) : Prop where
  ctx : ∀ c, t.ctx c = if (s.ctx c).owner = some h then (s.ctx c).withdrawn else s.ctx c
  ready : ∀ g, t.readyList g = if g = h then [] else s.readyList g
  cq : ∀ g, t.cq g = if g = h then { s.cq h with held := [] } else s.cq g
  window : ∀ u, t.window u =
    if (s.window u).state = .orphan ∧ (s.window u).refs ≤ s.usesBy h u then
      { s.window u with state := .closed, creator := none, share := 0, learned := none, demoted := false, refs := 0 }
    else { s.window u with refs := (s.window u).refs - s.usesBy h u }
  line : ∀ n, t.line n = if (∃ c, (s.line n).bound = some c ∧ (s.ctx c).owner = some h) then
    { s.line n with bound := none, armed := false } else s.line n
  frame : t = { s with
    ctxs := t.ctxs, windows := t.windows, lines := t.lines, cqs := t.cqs, sched := { s.sched with ready := t.sched.ready } }

theorem Sound.freeContexts (sound : Sound s) (quiesced : s.quiesced h) : ContextsFreed s h (s.freeContexts h) := by
  obtain ⟨unlisted, unheld⟩ := sound.lists_freeContexts quiesced
  refine ⟨s.ctx_freeContexts h, fun g => ?_, fun g => ?_, fun u => ?_, State.line_freeContexts sound.lines h,
    s.freeContexts_frame h⟩
  · split
    · next same => rw [same, unlisted]
    · next other => exact s.readyList_freeContexts_ne other
  · split
    · next same => rw [same, Cq.eq_of_withoutHeld (s.withoutHeld_freeContexts h h), unheld]
    · next other => exact s.cq_freeContexts_ne other
  · obtain ⟨-, -, orphaned, -⟩ := sound.windows u
    rw [s.window_freeContexts h u]
    refine if_congr ⟨And.right, fun ⟨orphan, all⟩ => ⟨?_, orphan, all⟩⟩ rfl rfl
    exact (orphaned orphan).2.trans all

/-! ## Step 4: the windows of the host (R44) -/

theorem State.eq_of_withoutResources (kept : t.withoutResources s.windows s.lines = s) :
    t = s.withoutResources t.windows t.lines :=
  (congrArg (·.withoutResources t.windows t.lines) kept :)

theorem State.withdrawWindows_frame (s : State) (h : HostNo) :
    s.withdrawWindows h = { s with windows := (s.withdrawWindows h).windows } := by
  have kept : (s.withdrawWindows h).withoutResources s.windows s.lines = s :=
    foldl_keeps _ (·.withoutResources s.windows s.lines) (fun _ _ => rfl) allWins s
  have lines : (s.withdrawWindows h).lines = s.lines := Vector.ext fun i bound => s.line_withdrawWindows h ⟨i, bound⟩
  refine (State.eq_of_withoutResources kept).trans ?_
  rw [lines]
  rfl

/-! ## The row -/

theorem exec_nextWithdrawalStep {w : Withdrawal} (withdraws : s.wd h = some w) :
    exec (.nextWithdrawalStep h) s = .next (s.nextStep h w) :=
  congrArg Host.Outcome.next (by rw [withdraws])

theorem State.servedHost_ne (unserved : ∀ v, s.engine.service = some v → (s.ctx v.ctx).owner ≠ some h) :
    s.servedHost ≠ some h := by
  unfold State.servedHost
  split
  · next v service => exact unserved v service
  · exact nofun

theorem State.nextStep_unserved {w : Withdrawal} (step : w.step = .cut ∨ w.step = .cutting) (unserved : s.servedHost ≠ some h) :
    s.nextStep h w = s.setWd h (some { w with step := .contexts }) := by
  rcases step with e | e <;> simp only [State.nextStep, e, if_neg unserved]

theorem State.nextStep_contexts {w : Withdrawal} (step : w.step = .contexts) :
    s.nextStep h w = ((s.freeContexts h).setWd h (some { w with step := .windows })).reevaluate := by
  simp only [State.nextStep, step]

theorem State.nextStep_windows {w : Withdrawal} (step : w.step = .windows) :
    s.nextStep h w = (s.withdrawWindows h).setWd h (some { w with step := .queue }) := by
  simp only [State.nextStep, step]

/-- Settles O49: by the step that comes next. -/
theorem withdrawalStepsTaken : Obligations.WithdrawalStepsTaken := by
  intro s h
  refine ⟨fun rests => congrArg Host.Outcome.next (by rw [rests]), fun w withdraws => ?_⟩
  rw [exec_nextWithdrawalStep withdraws]
  refine ⟨fun step waits => ?_, fun step taken => ?_, fun step unserved => ?_, fun step sound quiesced => ?_, fun step => ?_,
    fun step => ?_, fun step => ?_⟩
  · simp only [State.nextStep, step, if_pos waits]
  · simp only [State.nextStep, step, taken, State.beginDue, withdraws]
    rfl
  · rw [State.nextStep_unserved step (State.servedHost_ne unserved)]
  · rw [State.nextStep_contexts step]
    have freed := sound.freeContexts quiesced
    generalize s.freeContexts h = t at freed
    obtain ⟨ctx, ready, cq, window, line, frame⟩ := freed
    refine ⟨t.setWd h (some { w with step := .windows }), rfl, ctx, ready, cq, window, line, fun g => ?_, ?_⟩
    · rw [State.wd_setWd, frame]
      rfl
    · rw [State.setWd, frame]
  · rw [State.nextStep_windows step]
    have window := s.window_withdrawWindows h
    have frame := s.withdrawWindows_frame h
    generalize s.withdrawWindows h = t at window frame
    refine ⟨t.setWd h (some { w with step := .queue }), rfl, window, ?_⟩
    rw [frame]
    rfl
  · rw [State.nextStep, step]
    rfl
  · simp only [State.nextStep, step, State.completeWithdrawal, State.wd_resetWeight, withdraws]
    rfl

end

end Sys2Proof.Machine
end

section
/-! SUPPORT. The acts that do not see the ports. With the ports replaced such an act does the same to the rest of the state; only the
answer to a command, and the commands of a port itself, look at a port. -/

namespace Sys2Proof.Machine

-- One proof at a time: proofs elaborated side by side need more threads than the memory limit of the check leaves room for.
set_option Elab.async false

/-! ## Acts that do not see the ports -/

/-- The state with all the ports replaced. -/
def State.withPorts (s : State) (v : Vector Port 4) : State := { s with ports := v }

/-- Two branches that are each kept apart from the ports. -/
theorem State.branch_withPorts {s t a b : State} {v : Vector Port 4} {p q : Prop} [Decidable p] [Decidable q] (same : p ↔ q)
    (yes : s = a.withPorts v) (no : t = b.withPorts v) : (if p then s else t) = (if q then a else b).withPorts v := by
  rw [yes, no, apply_ite (State.withPorts · v)]
  exact if_congr same rfl rfl

section
variable (s : State) (v : Vector Port 4) (h : HostNo) (c : CtxNo)

@[simp] theorem State.ctx_withPorts : (s.withPorts v).ctx c = s.ctx c := rfl

@[simp] theorem State.cq_withPorts : (s.withPorts v).cq h = s.cq h := rfl

@[simp] theorem State.wd_withPorts : (s.withPorts v).wd h = s.wd h := rfl

@[simp] theorem State.readyList_withPorts : (s.withPorts v).readyList h = s.readyList h := rfl

@[simp] theorem State.sched_withPorts : (s.withPorts v).sched = s.sched := rfl

@[simp] theorem State.engine_withPorts : (s.withPorts v).engine = s.engine := rfl

@[simp] theorem State.choices_withPorts : (s.withPorts v).choices = s.choices := rfl

theorem State.mostUrgent_withPorts (l : List CtxNo) : (s.withPorts v).mostUrgent l = s.mostUrgent l := by
  induction l with
  | nil => rfl
  | cons c l ih =>
    unfold State.mostUrgent
    rw [ih]
    rfl

@[simp] theorem State.choose_withPorts : (s.withPorts v).choose = s.choose := by
  have atSlot : (s.withPorts v).atSlot = s.atSlot := funext fun slot => by
    unfold State.atSlot
    rw [State.sched_withPorts]
    split
    · rw [State.mostUrgent_withPorts]; rfl
    · rfl
  unfold State.choose
  rw [atSlot]
  rfl

@[simp] theorem State.startCheck_withPorts : (s.withPorts v).startCheck c h = s.startCheck c h := rfl

@[simp] theorem State.holdsGrant_withPorts : (s.withPorts v).holdsGrant = s.holdsGrant := rfl

@[simp] theorem State.setCtx_withPorts (x : Ctx) : (s.withPorts v).setCtx c x = (s.setCtx c x).withPorts v := rfl

@[simp] theorem State.setCq_withPorts (x : Cq) : (s.withPorts v).setCq h x = (s.setCq h x).withPorts v := rfl

@[simp] theorem State.setWd_withPorts (x : Option Withdrawal) : (s.withPorts v).setWd h x = (s.setWd h x).withPorts v := rfl

@[simp] theorem State.setEngine_withPorts (e : Engine) : (s.withPorts v).setEngine e = (s.setEngine e).withPorts v := rfl

@[simp] theorem State.setMark_withPorts (m : Option Nat) : (s.withPorts v).setMark m = (s.setMark m).withPorts v := rfl

@[simp] theorem State.leaveReady_withPorts : (s.withPorts v).leaveReady h c = (s.leaveReady h c).withPorts v := rfl

@[simp] theorem State.enterTail_withPorts : (s.withPorts v).enterTail h c = (s.enterTail h c).withPorts v := rfl

@[simp] theorem State.enterHead_withPorts : (s.withPorts v).enterHead h c = (s.enterHead h c).withPorts v := rfl

@[simp] theorem State.countChoice_withPorts : (s.withPorts v).countChoice = s.countChoice.withPorts v := rfl

@[simp] theorem State.dropService_withPorts : (s.withPorts v).dropService = s.dropService.withPorts v := rfl

@[simp] theorem State.dropMark_withPorts : (s.withPorts v).dropMark = s.dropMark.withPorts v := rfl

@[simp] theorem State.reevaluate_withPorts : (s.withPorts v).reevaluate = s.reevaluate.withPorts v := by
  rw [State.reevaluate_eq, State.reevaluate_eq]
  rfl

@[simp] theorem State.unbindLine_withPorts : (s.withPorts v).unbindLine c = (s.unbindLine c).withPorts v := by
  unfold State.unbindLine
  rw [State.ctx_withPorts]
  split
  · exact State.branch_withPorts .rfl rfl rfl
  · rfl

@[simp] theorem State.issueBeat_withPorts : (s.withPorts v).issueBeat = s.issueBeat.withPorts v := by
  unfold State.issueBeat
  rw [State.engine_withPorts]
  split <;> rfl

@[simp] theorem State.setArmed_withPorts (b : Bool) : (s.withPorts v).setArmed c b = (s.setArmed c b).withPorts v := by
  unfold State.setArmed
  rw [State.ctx_withPorts]
  split <;> rfl

@[simp] theorem State.beginService_withPorts (slot : Nat) :
    (s.withPorts v).beginService slot c = (s.beginService slot c).withPorts v := by
  have disarmed : ∀ t : State,
      (if (s.ctx c).trigger.isPaced then (t.withPorts v).setArmed c false else t.withPorts v) =
        (if (s.ctx c).trigger.isPaced then t.setArmed c false else t).withPorts v :=
    fun t => State.branch_withPorts .rfl (t.setArmed_withPorts v c false) rfl
  unfold State.beginService
  rw [State.ctx_withPorts]
  dsimp only
  cases (s.ctx c).owner with
  | some h =>
    simp only [State.leaveReady_withPorts, State.setCtx_withPorts, disarmed]
    rfl
  | none =>
    simp only [State.setCtx_withPorts, disarmed]
    rfl

@[simp] theorem State.selectNow_withPorts (strobe : Bool) : (s.withPorts v).selectNow strobe = (s.selectNow strobe).withPorts v := by
  unfold State.selectNow
  rw [State.choose_withPorts]
  split
  · next slot c _ =>
    have begun : (if strobe then ((s.withPorts v).beginService slot c).issueBeat else (s.withPorts v).beginService slot c) =
        (if strobe then (s.beginService slot c).issueBeat else s.beginService slot c).withPorts v :=
      State.branch_withPorts .rfl (by simp) (by simp)
    dsimp only
    rw [begun, State.reevaluate_withPorts]
  · simp [State.releaseBus]

@[simp] theorem State.select_withPorts : (s.withPorts v).select = s.select.withPorts v := by
  unfold State.select
  exact State.branch_withPorts .rfl (by simp) (by simp)

@[simp] theorem State.takeGrant_withPorts : (s.withPorts v).takeGrant = s.takeGrant.withPorts v := by
  unfold State.takeGrant
  rw [State.engine_withPorts]
  split
  · simp
  · split
    · simp [State.setEngState]
    · simp
  · simp

@[simp] theorem State.leaveBus_withPorts : (s.withPorts v).leaveBus = s.leaveBus.withPorts v := by
  rw [State.leaveBus_eq, State.leaveBus_eq]
  have left : (s.withPorts v).busLeft = s.busLeft.withPorts v := by simp [State.busLeft]
  rw [left]
  exact State.branch_withPorts .rfl (by simp) rfl

@[simp] theorem State.afterService_withPorts : (s.withPorts v).afterService = s.afterService.withPorts v := by
  unfold State.afterService
  exact State.branch_withPorts .rfl (by simp) (by simp)

@[simp] theorem State.movePointer_withPorts : (s.withPorts v).movePointer = s.movePointer.withPorts v := by
  unfold State.movePointer
  rw [State.sched_withPorts]
  split <;> rfl

@[simp] theorem State.placeCompleted_withPorts : (s.withPorts v).placeCompleted c = (s.placeCompleted c).withPorts v := by
  unfold State.placeCompleted
  refine State.branch_withPorts .rfl rfl ?_
  rw [State.ctx_withPorts]
  split <;> rfl

@[simp] theorem State.placeYielded_withPorts : (s.withPorts v).placeYielded c = (s.placeYielded c).withPorts v := by
  unfold State.placeYielded
  refine State.branch_withPorts .rfl rfl ?_
  rw [State.ctx_withPorts]
  split <;> rfl

/-- Acts that do not see the ports, one after another. -/
theorem State.foldl_withPorts {α : Type} (f : State → α → State) (blind : ∀ t a, f (t.withPorts v) a = (f t a).withPorts v)
    (l : List α) : ∀ s : State, l.foldl f (s.withPorts v) = (l.foldl f s).withPorts v := by
  induction l with
  | nil => exact fun _ => rfl
  | cons a l ih => exact fun s => by rw [List.foldl_cons, List.foldl_cons, blind, ih]

@[simp] theorem State.releaseResources_withPorts :
    (s.withPorts v).releaseResources c = (s.releaseResources c).withPorts v := by
  unfold State.releaseResources
  rw [State.ctx_withPorts, State.foldl_withPorts v _ fun _ _ => rfl, State.unbindLine_withPorts]

@[simp] theorem State.bindLine_withPorts : (s.withPorts v).bindLine c = (s.bindLine c).withPorts v := by
  unfold State.bindLine
  rw [State.ctx_withPorts]
  split <;> rfl

@[simp] theorem State.takeStart_withPorts : (s.withPorts v).takeStart c h = (s.takeStart c h).withPorts v := by
  unfold State.takeStart State.takeResources
  rw [State.ctx_withPorts, State.foldl_withPorts v _ fun _ _ => rfl, State.bindLine_withPorts]
  rfl

@[simp] theorem State.toClaimed_withPorts : (s.withPorts v).toClaimed c = (s.toClaimed c).withPorts v := by
  simp [State.toClaimed]

@[simp] theorem State.reload_withPorts : (s.withPorts v).reload c h = (s.reload c h).withPorts v := by
  rw [State.reload_eq, State.reload_eq]
  exact State.branch_withPorts .rfl rfl rfl

theorem State.dispose_withPorts (k : Cause) :
    (s.withPorts v).dispose c h k = ((s.dispose c h k).1.withPorts v, (s.dispose c h k).2) := by
  unfold State.dispose
  simp only [State.ctx_withPorts, State.toClaimed_withPorts, State.reload_withPorts, State.takeStart_withPorts,
    State.startCheck_withPorts]
  split
  · rfl
  · split
    · split
      · rfl
      · rfl
    · rfl

@[simp] theorem State.post_withPorts (e : RunEnd) : (s.withPorts v).post c h e = (s.post c h e).withPorts v := by
  simp only [State.post, State.dispose_withPorts]
  rfl

@[simp] theorem State.hold_withPorts (e : RunEnd) : (s.withPorts v).hold c h e = (s.hold c h e).withPorts v := rfl

@[simp] theorem State.runEnds_withPorts (e : RunEnd) : (s.withPorts v).runEnds c h e = (s.runEnds c h e).withPorts v := by
  unfold State.runEnds
  exact State.branch_withPorts .rfl (by simp) (by simp)

@[simp] theorem State.releaseHeld_withPorts : (s.withPorts v).releaseHeld h = (s.releaseHeld h).withPorts v := by
  unfold State.releaseHeld
  rw [State.cq_withPorts]
  split
  · rfl
  · dsimp only
    rw [State.ctx_withPorts]
    split
    · simp
    · simp

@[simp] theorem State.freeCtx_withPorts : (s.withPorts v).freeCtx h c = (s.freeCtx h c).withPorts v := by
  rw [State.freeCtx_eq, State.freeCtx_eq, ← State.setCtx_withPorts]
  refine congrArg (State.setCtx · c (s.ctx c).freed) (State.branch_withPorts .rfl ?_ rfl)
  exact (s.offLists h c).releaseResources_withPorts v c

@[simp] theorem State.discardPartial_withPorts : (s.withPorts v).discardPartial = s.discardPartial.withPorts v := by
  unfold State.discardPartial
  rw [State.engine_withPorts]
  split
  · rfl
  · exact State.branch_withPorts .rfl rfl rfl

end
end Sys2Proof.Machine
end

section
/-! SUPPORT. A command that its block takes late, after a withdrawal has begun at its port (R163). `Late` sets the state beside the one
whose port is still EXECUTING; every act that a command can bring about does the same at both, down to the abort that ends a service
and answers the commands that wait on it. -/

namespace Sys2Proof.Machine

-- One proof at a time: proofs elaborated side by side need more threads than the memory limit of the check leaves room for.
set_option Elab.async false

/-! ## The same act at a port that is still EXECUTING -/

/-- `t` is `s`, but for the state of port `h`: there it is EXECUTING, where in `s` it has left EXECUTING for the withdrawal `w`, whose
step 1 waits for the block to take the command with it. The command does not wait on a service. -/
structure Late (h : HostNo) (p : Port) (w : Withdrawal) (s t : State) : Prop where
  twin : t = s.setPort h { p with state := .executing }
  port : s.port h = p
  untaken : ∀ q, p.passed = some q → q.waiting = none
  withdraws : s.wd h = some w
  begin : w.step = .begin

section
variable {h g : HostNo} {p : Port} {w : Withdrawal} {s t : State} {c : CtxNo} {v : Service}

/-! ### What both read alike -/

theorem Late.engine (k : Late h p w s t) : t.engine = s.engine := by rw [k.twin]; rfl

theorem Late.ctx (k : Late h p w s t) (c : CtxNo) : t.ctx c = s.ctx c := by rw [k.twin]; rfl

theorem Late.cq (k : Late h p w s t) (g : HostNo) : t.cq g = s.cq g := by rw [k.twin]; rfl

theorem Late.window (k : Late h p w s t) (u : WinNo) : t.window u = s.window u := by rw [k.twin]; rfl

theorem Late.weight (k : Late h p w s t) (g : HostNo) : t.weight g = s.weight g := by rw [k.twin]; rfl

theorem Late.wd (k : Late h p w s t) (g : HostNo) : t.wd g = s.wd g := by rw [k.twin]; rfl

theorem Late.sched (k : Late h p w s t) : t.sched = s.sched := by rw [k.twin]; rfl

theorem Late.choices (k : Late h p w s t) : t.choices = s.choices := by rw [k.twin]; rfl

theorem Late.abortSet (k : Late h p w s t) (v : Service) : t.abortSet v = s.abortSet v := by rw [k.twin]; rfl

theorem Late.cutWaiting (k : Late h p w s t) (v : Service) : t.cutWaiting v = s.cutWaiting v := by rw [k.twin]; rfl

theorem Late.srcSideEffect (k : Late h p w s t) (v : Service) : t.srcSideEffect v = s.srcSideEffect v := by rw [k.twin]; rfl

theorem Late.isEnding (k : Late h p w s t) (v : Service) : t.isEnding v = s.isEnding v := by rw [k.twin]; rfl

theorem Late.holdsGrant (k : Late h p w s t) : t.holdsGrant = s.holdsGrant := by rw [k.twin]; rfl

theorem Late.port_ne (k : Late h p w s t) (other : g ≠ h) : t.port g = s.port g := by
  rw [k.twin, State.port_setPort_ne _ _ _ _ other]

theorem Late.port_self (k : Late h p w s t) : t.port h = { p with state := .executing } := by
  rw [k.twin, State.port_setPort_self]

/-! ### Acts -/

/-- An act that does not see the ports, and keeps the withdrawal. -/
theorem Late.blind (k : Late h p w s t) {f : State → State} (blind : ∀ v, f (s.withPorts v) = (f s).withPorts v)
    (wd : (f s).wd h = s.wd h) : Late h p w (f s) (f t) := by
  have ports : (f s).ports = s.ports := (congrArg State.ports (blind s.ports) :)
  have twin := calc
    f t = f (s.withPorts (s.ports.set h.val { p with state := .executing })) := by rw [k.twin]; rfl
    _ = (f s).withPorts (s.ports.set h.val { p with state := .executing }) := blind _
    _ = (f s).setPort h { p with state := .executing } := by rw [← ports]; rfl
  have port : (f s).port h = p := by rw [State.port, ports]; exact k.port
  exact ⟨twin, port, k.untaken, wd.trans k.withdraws, k.begin⟩

theorem Late.setEngine (k : Late h p w s t) (e : Engine) : Late h p w (s.setEngine e) (t.setEngine e) :=
  k.blind (f := (·.setEngine e)) (fun _ => rfl) rfl

theorem Late.setCtx (k : Late h p w s t) (x : Ctx) : Late h p w (s.setCtx c x) (t.setCtx c x) :=
  k.blind (f := (·.setCtx c x)) (fun _ => rfl) rfl

theorem Late.countChoice (k : Late h p w s t) : Late h p w s.countChoice t.countChoice :=
  k.blind (f := State.countChoice) (fun _ => rfl) rfl

theorem Late.reevaluate (k : Late h p w s t) : Late h p w s.reevaluate t.reevaluate := k.blind (by simp) (by simp)

theorem Late.takeGrant (k : Late h p w s t) : Late h p w s.takeGrant t.takeGrant := k.blind (by simp) (by simp)

theorem Late.leaveBus (k : Late h p w s t) : Late h p w s.leaveBus t.leaveBus := k.blind (by simp) (by simp)

theorem Late.afterService (k : Late h p w s t) : Late h p w s.afterService t.afterService := k.blind (by simp) (by simp)

theorem Late.issueBeat (k : Late h p w s t) : Late h p w s.issueBeat t.issueBeat := k.blind (by simp) (by simp)

theorem Late.discardPartial (k : Late h p w s t) : Late h p w s.discardPartial t.discardPartial := k.blind (by simp) (by simp)

/-- The port and the withdrawal of another host. -/
theorem Late.setPort_ne (k : Late h p w s t) (other : g ≠ h) (x : Port) : Late h p w (s.setPort g x) (t.setPort g x) := by
  refine ⟨?_, (State.port_setPort_ne _ _ _ _ other.symm).trans k.port, k.untaken, k.withdraws, k.begin⟩
  have apart : g.val ≠ h.val := fun e => other (Fin.ext e)
  rw [k.twin]
  simp only [State.setPort]
  rw [Vector.set_comm _ _ apart.symm]

theorem Late.setWd_ne (k : Late h p w s t) (other : g ≠ h) (x : Option Withdrawal) :
    Late h p w (s.setWd g x) (t.setWd g x) :=
  k.blind (f := (·.setWd g x)) (fun _ => rfl) (State.wd_setWd_ne _ _ _ _ other.symm)

theorem Late.beginDue_ne (k : Late h p w s t) (other : g ≠ h) : Late h p w (s.beginDue g) (t.beginDue g) := by
  unfold State.beginDue
  rw [k.wd]
  split
  · split
    · exact (k.setWd_ne other _).reevaluate
    · exact k
  · exact k

theorem Late.deliver_ne (k : Late h p w s t) (other : g ≠ h) (bytes : List Byte) :
    Late h p w (s.deliver g bytes) (t.deliver g bytes) := by
  unfold State.deliver
  dsimp only
  rw [k.port_ne other]
  split
  · exact k.setPort_ne other _
  · exact (k.setPort_ne other _).beginDue_ne other

/-- Nobody answers a command that is still to be taken: a command that waits on a service is another host's. -/
theorem Late.answerWaiter (k : Late h p w s t) : Late h p w (s.answerWaiter c) (t.answerWaiter c) := by
  unfold State.answerWaiter
  rw [k.ctx]
  split
  · next g _ =>
    by_cases same : g = h
    · subst same
      rw [k.port_self, k.port]
      dsimp only
      split
      · next q passed =>
        have untaken : ¬q.waiting = some c := by rw [k.untaken q passed]; exact nofun
        rw [if_neg untaken, if_neg untaken]
        exact k
      · exact k
    · rw [k.port_ne same]
      split
      · split
        · exact k.deliver_ne same _
        · exact k
      · exact k
  · exact k

theorem Late.endRun (k : Late h p w s t) (e : RunEnd) : Late h p w (s.endRun c e) (t.endRun c e) := by
  unfold State.endRun
  rw [k.ctx]
  split
  · exact (k.blind (f := (·.runEnds c _ e)) (by simp) (by simp)).answerWaiter
  · exact k

theorem Late.endService (k : Late h p w s t) : Late h p w s.endService t.endService := by
  have moved : Late h p w s.dropService.movePointer t.dropService.movePointer :=
    k.blind (f := fun s => s.dropService.movePointer) (by simp) (by simp)
  unfold State.endService
  rw [k.engine]
  split
  · exact k
  · next v _ =>
    have completed := moved.blind (f := (·.placeCompleted v.ctx)) (by simp) (by simp)
    have ended := fun e => moved.endRun (c := v.ctx) e
    dsimp only
    rw [k.abortSet]
    split
    · exact completed.answerWaiter.afterService
    · next e _ =>
      rw [(ended e).sched, moved.sched, k.holdsGrant, k.choices]
      split
      · exact (ended e).afterService
      · split
        · exact (moved.countChoice.afterService.endRun e).reevaluate
        · exact (ended e).countChoice.afterService

theorem Late.pinnedAbort (k : Late h p w s t) : Late h p w s.pinnedAbort t.pinnedAbort := by
  unfold State.pinnedAbort
  rw [k.engine]
  split
  · exact k
  · exact (k.setEngine _).endService

/-- A host whose withdrawal has come to step 2 is another one. -/
theorem Late.other (k : Late h p w s t) {y : Withdrawal} (withdraws : s.wd g = some y) (begun : y.step ≠ .begin) : g ≠ h := by
  rintro rfl
  obtain rfl : y = w := Option.some.inj (withdraws.symm.trans k.withdraws)
  exact begun k.begin

theorem Late.cutService (k : Late h p w s t) (other : g ≠ h) : Late h p w (s.cutService g) (t.cutService g) := by
  unfold State.cutService
  rw [k.engine]
  split
  · exact k
  · next v _ =>
    have freed := k.blind (f := fun s => s.dropService.dropMark.freeCtx g v.ctx) (by simp) (by simp)
    dsimp only at freed ⊢
    rw [freed.wd]
    split
    · exact (freed.setWd_ne other _).afterService
    · exact freed.afterService

theorem Late.cuts (k : Late h p w s t) (waits : s.cutWaiting v = true) (owner : (s.ctx v.ctx).owner = some g) : g ≠ h := by
  cases withdraws : s.wd g with
  | none => simp [State.cutWaiting, owner, withdraws] at waits
  | some y =>
    have cutting : y.step = .cutting := by simpa [State.cutWaiting, owner, withdraws] using waits
    exact k.other withdraws (by simp [cutting])

theorem Late.afterPin (k : Late h p w s t) (v : Service) (l : GrantLoss) : Late h p w (s.afterPin v l) (t.afterPin v l) := by
  unfold State.afterPin
  rw [k.ctx, k.cutWaiting, k.abortSet, k.engine, k.choices]
  split
  · exact k
  · next g owner =>
    split
    · next waits => exact k.cutService (k.cuts waits owner)
    · split
      · split
        · exact k.pinnedAbort
        · split
          · exact k.countChoice.takeGrant
          · exact k.countChoice.pinnedAbort
      · split
        · exact k.takeGrant
        · exact k

theorem Late.settleCut (k : Late h p w s t) : Late h p w (s.settleCut g) (t.settleCut g) := by
  unfold State.settleCut
  rw [k.wd]
  split
  · next y withdraws =>
    split
    · next cutting => exact k.setWd_ne (k.other withdraws (by simp [cutting])) _
    · exact k
  · exact k

theorem Late.cutSettled (k : Late h p w s t) (v : Service) : Late h p w (s.cutSettled v) (t.cutSettled v) := by
  unfold State.cutSettled
  rw [k.ctx]
  split
  · exact k.settleCut
  · exact k

theorem Late.yieldService (k : Late h p w s t) (v : Service) : Late h p w (s.yieldService v) (t.yieldService v) := by
  have placed := k.blind (f := fun s => s.dropService.dropMark.placeYielded v.ctx) (by simp) (by simp)
  unfold State.yieldService
  dsimp only at placed ⊢
  split
  · exact (placed.blind (f := (·.setArmed v.ctx true)) (by simp) (by simp)).answerWaiter.leaveBus
  · exact placed.answerWaiter.leaveBus

theorem Late.settleLoss (k : Late h p w s t) : Late h p w s.settleLoss t.settleLoss := by
  have d := k.discardPartial
  rw [State.settleLoss_eq, State.settleLoss_eq, d.engine]
  split
  · exact d.leaveBus
  · next v _ =>
    rw [d.srcSideEffect, d.isEnding]
    split
    · exact (d.blind (f := (·.pin v)) (fun _ => rfl) rfl).afterPin v _
    · split
      · exact (d.cutSettled v).endService
      · exact (d.cutSettled v).yieldService v

theorem Late.proceed (k : Late h p w s t) : Late h p w s.proceed t.proceed := by
  unfold State.proceed
  rw [k.engine]
  split
  · exact k.settleLoss
  · exact k.issueBeat

theorem Late.stopReading (k : Late h p w s t) : Late h p w s.stopReading t.stopReading := by
  unfold State.stopReading
  rw [k.engine]
  split
  · exact k
  · split
    · exact (k.setEngine _).proceed
    · exact k.endService

theorem Late.abortReaches (k : Late h p w s t) : Late h p w s.abortReaches t.abortReaches := by
  unfold State.abortReaches State.setService State.setEngState
  rw [k.engine]
  split
  · exact k
  · split
    · split
      · exact k.discardPartial.stopReading
      · exact k.setEngine _
    · split
      · exact k.setEngine _
      · split
        · exact k.endService
        · exact k
    · exact k.pinnedAbort
    · exact k

/-! ### Commands -/

theorem Late.ctxTest (k : Late h p w s t) (g : HostNo) (b : Byte) (accept : CtxState → Bool) :
    t.ctxTest g b accept = s.ctxTest g b accept := by rw [k.twin]; rfl

theorem Late.lowestFree (k : Late h p w s t) : t.lowestFree = s.lowestFree := by rw [k.twin]; rfl

theorem Late.openTarget (k : Late h p w s t) (b : Byte) : t.openTarget b = s.openTarget b := by rw [k.twin]; rfl

theorem Late.startCheck (k : Late h p w s t) (c : CtxNo) (g : HostNo) : t.startCheck c g = s.startCheck c g := by
  rw [k.twin]; rfl

theorem Late.armedShown (k : Late h p w s t) (c : CtxNo) : t.armedShown c = s.armedShown c := by rw [k.twin]; rfl

/-- A block has done and answered the same at both. -/
def Alike (h : HostNo) (p : Port) (w : Withdrawal) (r r' : State × Reply) : Prop := Late h p w r.1 r'.1 ∧ r'.2 = r.2

theorem Late.same (k : Late h p w s t) (r : Reply) : Alike h p w (s, r) (t, r) := ⟨k, rfl⟩

theorem Late.onCtx (k : Late h p w s t) {ps : List Byte} {accept : CtxState → Bool} {run run' : CtxNo → State × Reply}
    (runs : ∀ c, Alike h p w (run c) (run' c)) : Alike h p w (s.onCtx g ps accept run) (t.onCtx g ps accept run') := by
  unfold State.onCtx
  rw [k.ctxTest]
  split
  · exact k.same _
  · exact runs _

theorem Late.claim (k : Late h p w s t) (ps : List Byte) : Alike h p w (State.claim g ps s) (State.claim g ps t) := by
  have claimed : ∀ c, Alike h p w (s.takeClaim g c) (t.takeClaim g c) := fun c => by
    unfold State.takeClaim
    rw [k.ctx]
    exact (k.setCtx _).same _
  unfold State.claim
  dsimp only
  rw [k.lowestFree]
  split
  · split
    · exact claimed _
    · exact k.same _
  · split
    · exact k.same _
    · rw [k.ctx]
      split
      · exact claimed _
      · exact k.same _

theorem Late.release (k : Late h p w s t) (ps : List Byte) : Alike h p w (State.release g ps s) (State.release g ps t) :=
  k.onCtx fun c => by
    rw [k.ctx]
    exact (k.setCtx _).same _

theorem Late.setPart (k : Late h p w s t) (x : Option Ctx) : Alike h p w (s.setPart c x) (t.setPart c x) := by
  cases x with
  | none => exact k.same _
  | some x => exact (k.setCtx x).same _

theorem Late.setSource (k : Late h p w s t) (ps : List Byte) : Alike h p w (State.setSource g ps s) (State.setSource g ps t) :=
  k.onCtx fun c => by
    dsimp only
    rw [k.ctx]
    exact k.setPart _

theorem Late.setDest (k : Late h p w s t) (ps : List Byte) : Alike h p w (State.setDest g ps s) (State.setDest g ps t) :=
  k.onCtx fun c => by
    dsimp only
    rw [k.ctx]
    exact k.setPart _

theorem Late.setCount (k : Late h p w s t) (ps : List Byte) : Alike h p w (State.setCount g ps s) (State.setCount g ps t) :=
  k.onCtx fun c => by
    dsimp only
    rw [k.ctx]
    exact k.setPart _

theorem Late.setMode (k : Late h p w s t) (ps : List Byte) : Alike h p w (State.setMode g ps s) (State.setMode g ps t) :=
  k.onCtx fun c => by
    dsimp only
    rw [k.ctx]
    exact k.setPart _

theorem Late.setPattern (k : Late h p w s t) (ps : List Byte) : Alike h p w (State.setPattern g ps s) (State.setPattern g ps t) :=
  k.onCtx fun c => by
    dsimp only
    rw [k.ctx]
    exact k.setPart _

theorem Late.setLink (k : Late h p w s t) (ps : List Byte) : Alike h p w (State.setLink g ps s) (State.setLink g ps t) := by
  refine k.onCtx fun c => ?_
  dsimp only
  rw [k.ctx]
  split
  · exact k.setPart _
  · split
    · exact k.same _
    · rw [k.ctx]
      split
      · exact k.same _
      · split
        · exact k.same _
        · exact k.setPart _

theorem Late.start (k : Late h p w s t) (ps : List Byte) : Alike h p w (State.start g ps s) (State.start g ps t) := by
  refine k.onCtx fun c => ?_
  rw [k.startCheck]
  split
  · exact k.same _
  · exact (k.blind (f := fun s => (s.takeStart c g).reevaluate) (by simp) (by simp)).same _

theorem Late.suspend (k : Late h p w s t) (ps : List Byte) : Alike h p w (State.suspend g ps s) (State.suspend g ps t) := by
  refine k.onCtx fun c => ?_
  dsimp only
  rw [k.ctx]
  split
  · exact (k.setCtx _).same _
  · refine Late.same (k.blind (f := fun u => ((u.leaveReady g c).setCtx c _).reevaluate) ?_ ?_) _
    · simp
    · simp

theorem Late.resume (k : Late h p w s t) (ps : List Byte) : Alike h p w (State.resume g ps s) (State.resume g ps t) := by
  refine k.onCtx fun c => ?_
  rw [k.ctx]
  refine Late.same (k.blind (f := fun u => ((u.setCtx c _).enterTail g c).reevaluate) ?_ ?_) _
  · simp
  · simp

theorem Late.abort (k : Late h p w s t) (ps : List Byte) : Alike h p w (State.abort g ps s) (State.abort g ps t) := by
  refine k.onCtx fun c => ?_
  dsimp only
  rw [k.ctx]
  split
  · have reached := (k.setCtx (c := c) { s.ctx c with abortPending := true }).abortReaches
    rw [reached.ctx]
    exact reached.same _
  · exact (k.blind (f := fun s => ((s.leaveReady g c).runEnds c g abortEnd).reevaluate) (by simp) (by simp)).same _

theorem Late.query (k : Late h p w s t) (ps : List Byte) : Alike h p w (State.query g ps s) (State.query g ps t) :=
  k.onCtx fun c => by
    rw [k.ctx, k.armedShown]
    exact k.same _

theorem Late.setWindow (k : Late h p w s t) (u : WinNo) (x : Window) : Late h p w (s.setWindow u x) (t.setWindow u x) :=
  k.blind (f := (·.setWindow u x)) (fun _ => rfl) rfl

theorem Late.openWindow (k : Late h p w s t) (ps : List Byte) :
    Alike h p w (State.openWindow g ps s) (State.openWindow g ps t) := by
  unfold State.openWindow
  dsimp only
  rw [k.openTarget]
  split
  · exact k.same _
  · split
    · exact k.same _
    · split
      · split
        · exact (k.setWindow _ _).same _
        · exact k.same _
      · exact k.same _

theorem Late.closeWindow (k : Late h p w s t) (ps : List Byte) :
    Alike h p w (State.closeWindow g ps s) (State.closeWindow g ps t) := by
  unfold State.closeWindow
  split
  · exact k.same _
  · dsimp only
    rw [k.window]
    split
    · exact k.same _
    · split
      · exact k.same _
      · split
        · exact k.same _
        · exact (k.setWindow _ _).same _

theorem Late.queryWindow (k : Late h p w s t) (ps : List Byte) :
    Alike h p w (State.queryWindow g ps s) (State.queryWindow g ps t) := by
  unfold State.queryWindow
  split
  · exact k.same _
  · dsimp only
    rw [k.window]
    split
    · exact k.same _
    · split
      · exact k.same _
      · exact k.same _

theorem Late.setOwnWeight (k : Late h p w s t) (ps : List Byte) :
    Alike h p w (State.setOwnWeight g ps s) (State.setOwnWeight g ps t) := by
  unfold State.setOwnWeight
  dsimp only
  rw [k.weight]
  split
  · exact k.same _
  · split
    · exact k.same _
    · exact (k.blind (f := fun s => (s.setWeight g _).rebuild) (fun _ => rfl) rfl).same _

theorem Late.takeRecord (k : Late h p w s t) (ps : List Byte) :
    Alike h p w (State.takeRecord g ps s) (State.takeRecord g ps t) := by
  unfold State.takeRecord
  rw [k.cq]
  split
  · exact k.same _
  · next r rest _ =>
    exact (k.blind (f := fun u => ((u.setCq g { s.cq g with queue := rest }).releaseHeld g).reevaluate) (by simp) (by simp)).same _

theorem Late.peekRecord (k : Late h p w s t) (ps : List Byte) :
    Alike h p w (State.peekRecord g ps s) (State.peekRecord g ps t) := by
  unfold State.peekRecord
  rw [k.cq]
  split
  · exact k.same _
  · exact k.same _

/-! ### The result (R154, R163) -/

/-- Step 1 of the withdrawal follows the command that it waited for. -/
theorem Late.beginDue (k : Late h p w s t) (x : Port) :
    (s.setPort h x).beginDue h = ((s.setPort h x).setWd h (some { w with step := .cut })).reevaluate := by
  unfold State.beginDue
  rw [State.wd_setPort, k.withdraws]
  exact if_pos k.begin

/-- Where the port has left EXECUTING, the result, or the wait for one, is discarded. -/
theorem Late.discards (k : Late h p w s t) (left : p.state ≠ .executing) (r : Reply) :
    s.reply h r = ((s.setPort h { p with passed := none }).setWd h (some { w with step := .cut })).reevaluate := by
  have unexecuting : (s.port h).state ≠ .executing := by rw [k.port]; exact left
  rw [← k.beginDue, ← k.port]
  cases r with
  | answer bytes => exact State.deliver_discarded unexecuting bytes
  | wait c => exact State.waitOn_discarded unexecuting c

/-- Where it is still EXECUTING, the result is an act on the port alone. -/
theorem Late.replies (k : Late h p w s t) (r : Reply) : ∃ x, t.reply h r = s.setPort h x := by
  have executing : (t.port h).state = .executing := by rw [k.port_self]
  have sets : ∀ y, t.setPort h y = s.setPort h y := fun y => by rw [k.twin, State.setPort_setPort]
  cases r with
  | answer bytes =>
    exact ⟨_, (State.deliver_executing executing bytes).trans (sets _)⟩
  | wait c =>
    exact ⟨_, (State.waitOn_executing executing c).trans (sets _)⟩

/-- A command taken late: its effects are those at a port that is still EXECUTING, and step 1 of the withdrawal follows. -/
theorem Late.take (k : Late h p w s t) {cmd : Cmd} {ps : List Byte} {run : List Byte → State → State × Reply}
    (left : p.state ≠ .executing) (passed : p.passed = some { cmd := cmd, params := ps, waiting := none })
    (alike : Alike h p w (run ps s) (run ps t)) :
    s.take h cmd run = (((t.take h cmd run).setPort h { p with passed := none }).setWd h
      (some { w with step := .cut })).reevaluate := by
  obtain ⟨acted, reply⟩ := alike
  have late : s.take h cmd run = (run ps s).1.reply h (run ps s).2 := by simp [State.take, State.toTake, k.port, passed]
  have timely : t.take h cmd run = (run ps t).1.reply h (run ps t).2 :=
    State.take_given ⟨by rw [k.port_self], by rw [k.port_self]; exact passed⟩ run
  obtain ⟨x, replied⟩ := acted.replies (run ps s).2
  rw [late, acted.discards left, timely, reply, replied, State.setPort_setPort]

end

/-- Every command but RSN, which the port carries out itself, is taken by its block, and done the same at both (R153). -/
theorem Cmd.row_taken {cmd : Cmd} (other : cmd ≠ .rsn) (h : HostNo) :
    ∃ run, (∀ s, exec (cmd.row h) s = .next (s.take h cmd run)) ∧
      ∀ {p w s t}, Late h p w s t → ∀ ps, Alike h p w (run ps s) (run ps t) := by
  cases cmd with
  | clm => exact ⟨_, fun _ => rfl, Late.claim⟩
  | rel => exact ⟨_, fun _ => rfl, Late.release⟩
  | src => exact ⟨_, fun _ => rfl, Late.setSource⟩
  | dst => exact ⟨_, fun _ => rfl, Late.setDest⟩
  | cnt => exact ⟨_, fun _ => rfl, Late.setCount⟩
  | mod => exact ⟨_, fun _ => rfl, Late.setMode⟩
  | pat => exact ⟨_, fun _ => rfl, Late.setPattern⟩
  | lnk => exact ⟨_, fun _ => rfl, Late.setLink⟩
  | sta => exact ⟨_, fun _ => rfl, Late.start⟩
  | sus => exact ⟨_, fun _ => rfl, Late.suspend⟩
  | rsm => exact ⟨_, fun _ => rfl, Late.resume⟩
  | abt => exact ⟨_, fun _ => rfl, Late.abort⟩
  | qry => exact ⟨_, fun _ => rfl, Late.query⟩
  | tke => exact ⟨_, fun _ => rfl, Late.takeRecord⟩
  | pek => exact ⟨_, fun _ => rfl, Late.peekRecord⟩
  | opw => exact ⟨_, fun _ => rfl, Late.openWindow⟩
  | clw => exact ⟨_, fun _ => rfl, Late.closeWindow⟩
  | qwn => exact ⟨_, fun _ => rfl, Late.queryWindow⟩
  | wgt => exact ⟨_, fun _ => rfl, Late.setOwnWeight⟩
  | rsn => exact absurd rfl other

/-- Settles O50: the block does and answers the same at both ports, and at the one that has left EXECUTING the answer is lost. -/
theorem lateCommandResultDiscarded : Obligations.LateCommandResultDiscarded := by
  intro s h cmd ps w left passed withdraws begin other
  obtain ⟨run, row, alike⟩ := Cmd.row_taken other h
  have k : Late h (s.port h) w s (s.setPort h { s.port h with state := .executing }) :=
    ⟨rfl, rfl, fun q is => by rw [passed] at is; cases is; rfl, withdraws, begin⟩
  exact ⟨_, row _, by rw [row, k.take left passed (alike k ps)]⟩

end Sys2Proof.Machine
end

section
/-! SUPPORT. Codes and layouts (chapter 10): what a table writes reads back. The one fact about a word is that the bytes it is
written as, side by side, are the word again. -/

namespace Sys2Proof.Machine

/-! ## The codes of the commands (Table 10-1) -/

@[simp] theorem Cmd.ofCode_code (k : Cmd) : Cmd.ofCode k.code = some k := by
  cases k <;> rfl

theorem Cmd.ofCode_eq_some_iff (b : Byte) (k : Cmd) : Cmd.ofCode b = some k ↔ b = k.code where
  mp := Cmd.code_of_ofCode
  mpr same := same ▸ Cmd.ofCode_code k

theorem badCmd_code_ill_formed (k : Cmd) (h : HostNo) : (Instr.badCmd h k.code).wellFormed = false := by
  simp [Instr.wellFormed]

/-! ## Quantities of two and three bytes, high-order byte first (R166) -/

theorem halfOf_extractLsb (x : Half) : halfOf (x.extractLsb' 8 8) (x.extractLsb' 0 8) = x :=
  (BitVec.extractLsb'_append_extractLsb'_eq_extractLsb' rfl).trans BitVec.extractLsb'_eq_self

theorem addrOf_extractLsb (a : Addr) : addrOf (a.extractLsb' 16 8) (a.extractLsb' 8 8) (a.extractLsb' 0 8) = a := by
  have upper : a.extractLsb' 16 8 ++ a.extractLsb' 8 8 = a.extractLsb' 8 16 :=
    BitVec.extractLsb'_append_extractLsb'_eq_extractLsb' rfl
  have whole : a.extractLsb' 8 16 ++ a.extractLsb' 0 8 = a :=
    (BitVec.extractLsb'_append_extractLsb'_eq_extractLsb' rfl).trans BitVec.extractLsb'_eq_self
  rw [addrOf, upper, whole]

/-! ## The answers of the L-bus (Table 10-14, R168) -/

theorem lansOf_code (l : Lans) : lansOf l.code = l := by
  cases l with
  | wait => rfl
  | done a => cases a <;> rfl
  | failed c => cases c <;> rfl

/-- Each of the eight codes has a row of the table. -/
theorem Lans.exists_code : ∀ b : BitVec 3, ∃ l : Lans, l.code = b
  | 0 => ⟨.wait, rfl⟩
  | 1 => ⟨.done .ans8, rfl⟩
  | 2 => ⟨.done .ans16, rfl⟩
  | 3 => ⟨.done .sgl8, rfl⟩
  | 4 => ⟨.done .sgl16, rfl⟩
  | 5 => ⟨.failed .unnamed101, rfl⟩
  | 6 => ⟨.failed .unnamed110, rfl⟩
  | 7 => ⟨.failed .fault111, rfl⟩

theorem code_lansOf (b : BitVec 3) : (lansOf b).code = b := by
  obtain ⟨l, rfl⟩ := Lans.exists_code b
  rw [lansOf_code]

/-- Settles O5: table by table; the codes of the commands and of the answers are each one to one. -/
theorem codesReadBack : Obligations.CodesReadBack :=
  ⟨Cmd.ofCode_eq_some_iff, fun a => ⟨_, _, _, rfl, addrOf_extractLsb a⟩, fun x => ⟨_, _, rfl, halfOf_extractLsb x⟩,
    code_lansOf, lansOf_code, badCmd_code_ill_formed⟩

end Sys2Proof.Machine
end

section
/-! SUPPORT. A plain answer to the beat in flight (R79, R82): what it leaves of the bus, which byte or unit the beat brought, and what
the engine does of a unit read or written (R70 to R75). -/

namespace Sys2Proof.Machine

/-! ## The step on an empty queue -/

theorem State.goOn_held {s : State} (own : s.engine.lown = true) (beat : s.engine.beat = none) (keeps : s.engine.losing = none) :
    s.goOn = match s.engine.state with
      | .asking => (s.pastLate .expiry).selectNow false
      | .reading | .writing | .draining => (s.pastLate .expiry).issueBeat
      | .idle | .pinned => s :=
  if_pos (by simp [own, beat, keeps])

theorem State.goOn_idles {s : State} (off : s.engine.lown = false ∨ s.engine.beat ≠ none ∨ s.engine.losing ≠ none) :
    s.goOn = s := by
  refine if_neg ?_
  rcases off with off | off | off
  · simp [off]
  · simp [off]
  · simp [off]

/-- Settles O1: the front command, or what the engine has in hand on an empty queue. -/
theorem stepTakesTheFrontCommand : Obligations.StepTakesTheFrontCommand := by
  refine ⟨fun s c rest => rfl, fun s empty => ?_⟩
  have idles : step s = .next s.goOn := by rw [step, empty]
  refine ⟨fun own beat keeps => ⟨fun asking => ?_, fun onBus => ?_⟩, fun off => by rw [idles, State.goOn_idles off]⟩
  · rw [idles, State.goOn_held own beat keeps, asking]
    rfl
  · rw [idles, State.goOn_held own beat keeps]
    cases state : s.engine.state with
    | reading => rfl
    | writing => rfl
    | draining => rfl
    | idle => rw [state] at onBus; cases onBus
    | asking => rw [state] at onBus; cases onBus
    | pinned => rw [state] at onBus; cases onBus

/-! ## The context after a commit (R74, R76) -/

theorem AddrStep.next_eq (st : AddrStep) (u : UnitSize) (a : Addr) : st.next u a = unitAfter a st u := by
  cases st with
  | hold => rfl
  | inc =>
    cases u with
    | one => exact if_congr (by rw [BitVec.le_def]; change a.toNat + 1 < 2 ^ 24 ↔ a.toNat ≤ 0xFFFFFE; omega) rfl rfl
    | two => exact if_congr (by rw [BitVec.le_def]; change a.toNat + 2 < 2 ^ 24 ↔ a.toNat ≤ 0xFFFFFD; omega) rfl rfl
  | dec =>
    cases u with
    | one => exact if_congr (by rw [BitVec.le_def]; rfl) rfl rfl
    | two => exact if_congr (by rw [BitVec.le_def]; rfl) rfl rfl

theorem Ctx.commit_eq (x : Ctx) : x.commit = x.committed := by
  unfold Ctx.commit Ctx.committed
  rw [AddrStep.next_eq, AddrStep.next_eq]
  cases kind : x.kind <;> simp [Kind.usesSource, Kind.usesDest]

theorem residual_commit (x : Ctx) : x.commit.residual = 0 ↔ x.residual = 1 := by
  change x.residual - 1 = 0 ↔ x.residual = 1
  bv_omega

/-- The run-end tests at the commit of a unit (R75). -/
theorem runEndTest_commit (x : Ctx) (matched marked : Bool) :
    runEndTest x.commit.residual matched marked =
      if x.residual = 1 then some .count else if matched = true then some .matched
      else if marked = true then some .term else none :=
  if_congr (residual_commit x) rfl rfl

/-! ## What a plain answer leaves of the bus (R79, R82) -/

/-- The state once the beat in flight has been answered, and nothing learned. -/
def State.beatDone (s : State) (v : Service) (b : Beat) : State :=
  s.setEngine { s.engine with beat := none, rival := s.rivalOf v b .answer }

/-- The service record with TERM taken on the beat, where it counts (R129). -/
def Service.marking (v : Service) (b : Beat) (term : Bool) : Service := { v with termMark := v.termMark || takesTerm v b term }

theorem Service.termMark_undecided {v : Service} (undecided : v.endDecided = none) (b : Beat) (term : Bool) :
    (v.marking b term).termMark = v.unitMarked b term := by
  simp [Service.marking, Service.unitMarked, takesTerm, undecided]

theorem Service.termMark_decided {v : Service} (decided : v.endDecided ≠ none) (b : Beat) (term : Bool) :
    (v.marking b term).termMark = v.termMark := by
  obtain ⟨k, is⟩ := Option.ne_none_iff_exists'.1 decided
  simp [Service.marking, takesTerm, is]

theorem State.setWindow_same {s : State} {u : WinNo} {x : Window} (same : x = s.window u) : s.setWindow u x = s := by
  rw [same, State.setWindow, State.window, Vector.set_getElem_self]

section
variable {s : State} {v : Service} {b : Beat} {a : Answer}

theorem exec_plainAnswer (service : s.engine.service = some v) (beat : s.engine.beat = some b) (plain : s.plainAnswer v b a)
    (ld : Half) (term : Bool) :
    exec (.beatAnswer a ld term) s = .next ((s.beatDone v b).answered v b a.width ld (takesTerm v b term)) := by
  obtain ⟨ans, known, timely⟩ := plain
  rw [exec_beatAnswer_timely service beat timely,
    State.answerBeat_completes (s := s.setRival (s.rivalOf v b .answer)) service beat (.inr known), State.noteAnswer_eq, ans,
    Bool.false_and, Service.cutBurst_false]
  have taught : (s.setRival (s.rivalOf v b .answer)).setWindow (v.beatWindow b)
      (((s.setRival (s.rivalOf v b .answer)).window (v.beatWindow b)).taught a.width false) =
      s.setRival (s.rivalOf v b .answer) :=
    State.setWindow_same (Window.taught_known known)
  rw [taught, ← service]
  rfl

section
variable (service : s.engine.service = some v) (beat : s.engine.beat = some b) (uncut : s.uncut v) (plain : s.plainAnswer v b a)
include service beat uncut plain

theorem exec_plainAnswer_read (read : b.write = false) (ld : Half) (term : Bool) :
    exec (.beatAnswer a ld term) s = .next ((s.beatDone v b).readDone (v.marking b term) b a.width ld) := by
  have goesOn : ¬(s.beatDone v b).cutWaiting v = true := Bool.eq_false_iff.1 uncut
  rw [exec_plainAnswer service beat plain, State.answered, if_neg goesOn, if_neg (by simp [read])]
  rfl

theorem exec_plainAnswer_write (write : b.write = true) (ld : Half) (term : Bool) :
    exec (.beatAnswer a ld term) s = .next ((s.beatDone v b).writeDone (v.marking b term) b) := by
  have goesOn : ¬(s.beatDone v b).cutWaiting v = true := Bool.eq_false_iff.1 uncut
  rw [exec_plainAnswer service beat plain, State.answered, if_neg goesOn, if_pos write]
  rfl

end

/-! ## The byte and the unit that a beat brings (R70, R83) -/

/-- The bytes, in bus order, of the unit whose last byte the read beat `b` brought. -/
def State.unitRead (s : State) (v : Service) (b : Beat) (w : Width) (ld : Half) : List Byte :=
  if b.byte = false then [ld.extractLsb' 8 8, ld.extractLsb' 0 8]
  else if v.half = true then [s.engine.partialByte.getD 0, readLane w b.addr ld] else [readLane w b.addr ld]

theorem Service.lastByte_iff (v : Service) (b : Beat) : (v.unit = .one || !b.byte || v.half) = true ↔ v.lastByte b := by
  simp [Service.lastByte, or_assoc]

/-- A read beat whose data counts, and that ends a unit. -/
theorem State.readDone_unit (undecided : v.endDecided = none) (last : v.lastByte b) (w : Width) (ld : Half) :
    s.readDone v b w ld =
      if v.kind = .check then s.readCheck v (s.unitRead v b w ld) else s.readMove v (s.unitRead v b w ld) := by
  have counts : ¬(decide (v.kind = .check) && v.endDecided.isSome) = true := by simp [undecided]
  have unit : (if (!b.byte) = true then [ld.extractLsb' 8 8, ld.extractLsb' 0 8]
      else if v.half = true then [s.engine.partialByte.getD 0, readLane w b.addr ld] else [readLane w b.addr ld]) =
      s.unitRead v b w ld := if_congr (by simp) rfl rfl
  unfold State.readDone
  dsimp only
  rw [if_neg counts, (v.lastByte_iff b).2 last, unit]
  simp

/-- A read beat whose data counts, and that brings the first byte of a unit. -/
theorem State.readDone_first (undecided : v.endDecided = none) (first : ¬v.lastByte b) (w : Width) (ld : Half) :
    s.readDone v b w ld = s.readHalf v (readLane w b.addr ld) := by
  have counts : ¬(decide (v.kind = .check) && v.endDecided.isSome) = true := by simp [undecided]
  unfold State.readDone
  dsimp only
  rw [if_neg counts, Bool.eq_false_iff.2 (mt (v.lastByte_iff b).1 first)]
  rfl

/-- The data of a beat issued after the decided end of a CHECK is discarded (R87). -/
theorem State.readDone_decided (check : v.kind = .check) (decided : v.endDecided ≠ none) (w : Width) (ld : Half) :
    s.readDone v b w ld = s.readDiscarded v (decide (v.lastByte b)) := by
  have discards : (decide (v.kind = .check) && v.endDecided.isSome) = true := by
    simp [check, Option.isSome_iff_ne_none, decided]
  have whole : (v.unit = .one || !b.byte || v.half) = decide (v.lastByte b) :=
    Bool.eq_iff_iff.2 ((v.lastByte_iff b).trans (decide_eq_true_iff).symm)
  unfold State.readDone
  dsimp only
  rw [if_pos discards, whole]

theorem State.writeDone_eq (s : State) (v : Service) (b : Beat) :
    s.writeDone v b = if v.lastByte b then s.writeUnitDone v else s.writeHalf v :=
  if_congr (v.lastByte_iff b) rfl rfl

/-! ## A unit of a MOVE read (R71, R113, R126, R130) -/

/-- The engine state after a unit of a MOVE has been read. -/
def State.afterRead (s : State) (v : Service) : EngState :=
  if v.termMark = true ∨ s.abortSet v = true then .draining
  else if v.length ≤ v.unitsRead + 1 then .writing
  else if v.stopDue .source = true then .draining
  else .reading

theorem State.readMove_eq (reading : s.engine.state = .reading) (v : Service) (bytes : List Byte) :
    s.readMove v bytes = (s.setEngine { s.engine with
      partialByte := none, buffer := s.engine.buffer ++ [({ bytes := bytes, marked := v.termMark } : BufUnit)]
      state := s.afterRead v
      service := some { v with
        half := false, termMark := false, unitsRead := v.unitsRead + 1, readAddr := v.srcStep.next v.unit v.readAddr
        burst := if s.afterRead v = .reading then v.burst else 0 } }).proceed := by
  have marks : (v.termMark || s.abortSet v) = true ↔ v.termMark = true ∨ s.abortSet v = true := Bool.or_eq_true_iff
  unfold State.readMove
  by_cases stops : v.termMark = true ∨ s.abortSet v = true
  · have after : s.afterRead v = .draining := if_pos stops
    rw [after]
    exact if_pos (marks.2 stops)
  · by_cases full : v.length ≤ v.unitsRead + 1
    · have after : s.afterRead v = .writing := (if_neg stops).trans (if_pos full)
      rw [after]
      exact (if_neg (mt marks.1 stops)).trans (if_pos full)
    · by_cases due : v.stopDue .source = true
      · have after : s.afterRead v = .draining := (if_neg stops).trans ((if_neg full).trans (if_pos due))
        rw [after]
        exact (if_neg (mt marks.1 stops)).trans ((if_neg full).trans (if_pos due))
      · have after : s.afterRead v = .reading := (if_neg stops).trans ((if_neg full).trans (if_neg due))
        rw [after, if_pos rfl, ← reading]
        exact (if_neg (mt marks.1 stops)).trans ((if_neg full).trans (if_neg due))

theorem Service.stopDue_iff (v : Service) (side : LineSide) : v.stopDue side = true ↔
    v.trigger.isStream = true ∧ v.onSide side = true ∧ v.reqDropped = true ∧ v.writeOut = false := by
  simp [Service.stopDue, and_assoc]

end

/-- Settles O40: a plain answer, the unit it brings, and the state after its reading. -/
theorem moveUnitRead : Obligations.MoveUnitRead := by
  intro s a ld term v b service beat reading kind read uncut plain last undecided
  have moves : ¬(v.marking b term).kind = .check := fun check => by cases kind.symm.trans check
  have mark := Service.termMark_undecided undecided b term
  refine ⟨s.unitRead v b a.width ld, s.afterRead (v.marking b term), ?_, fun word => if_pos word, ?_, ?_⟩
  · rw [exec_plainAnswer_read service beat uncut plain read, State.readDone_unit (v := v.marking b term) undecided last,
      if_neg moves, State.readMove_eq (s := s.beatDone v b) reading, AddrStep.next_eq, ← mark]
    rfl
  · rintro x ⟨byte, rfl⟩
    have bytes : ¬b.byte = false := by simp [byte]
    refine ⟨fun whole => ?_, fun p half partial' => ?_⟩
    · rw [State.unitRead, if_neg bytes, if_neg (by simp [whole])]
      rfl
    · rw [State.unitRead, if_neg bytes, if_pos half, partial']
      rfl
  · simp only [State.afterRead, Service.stopDue_iff, mark]
    rfl

/-! ## Going on in the same step (R95) -/

theorem State.proceed_held {s : State} (keeps : s.engine.losing = none) : s.proceed = s.issueBeat :=
  if_neg (by simp [keeps])

theorem State.proceed_losing {s : State} (losing : s.engine.losing ≠ none) : s.proceed = s.settleLoss :=
  if_pos (Option.isSome_iff_ne_none.2 losing)

/-! ## The first byte of a unit (R70, R80, R95, R113, R115) -/

section
variable {s : State} {v : Service}

theorem State.writeHalf_eq (s : State) (v : Service) :
    s.writeHalf v = (s.setService { v with
      half := true
      burst := if v.kind = .fill ∧ (s.ctx v.ctx).abortPending = true then min v.burst 1 else v.burst }).proceed := by
  have keep : (if (decide (v.kind = .fill) && s.abortSet v) = true then min v.burst 1 else v.burst) =
      if v.kind = .fill ∧ (s.ctx v.ctx).abortPending = true then min v.burst 1 else v.burst :=
    if_congr (by simp [State.abortSet]) rfl rfl
  rw [← keep]
  rfl

/-- The state with the first byte of a unit read. -/
def State.halfRead (s : State) (v : Service) (byte : Byte) : State :=
  s.setEngine { s.engine with partialByte := some byte, service := some { v with half := true } }

theorem State.readHalf_losing {g : GrantLoss} (losing : s.engine.losing = some g) (v : Service) (byte : Byte) :
    s.readHalf v byte =
      if s.srcSideEffect v = true ∧ g.abortFirst = false then (s.halfRead v byte).issueBeat
      else (s.halfRead v byte).settleLoss := by
  unfold State.readHalf
  rw [losing]
  exact if_congr (by simp) rfl rfl

theorem State.readHalf_aborted (keeps : s.engine.losing = none) (abort : (s.ctx v.ctx).abortPending = true) (byte : Byte) :
    s.readHalf v byte = (s.halfRead v byte).discardPartial.stopReading := by
  unfold State.readHalf
  rw [keeps]
  exact if_pos abort

theorem State.readHalf_goesOn (keeps : s.engine.losing = none) (unaborted : (s.ctx v.ctx).abortPending = false) (byte : Byte) :
    s.readHalf v byte = (s.halfRead v byte).issueBeat := by
  unfold State.readHalf
  rw [keeps]
  exact if_neg (Bool.eq_false_iff.1 unaborted)

/-- The discard of the byte just read leaves the record of the units read before it. -/
theorem State.discardPartial_halfRead (reading : s.engine.state = .reading) (byte : Byte) :
    (s.halfRead v byte).discardPartial = s.setEngine { s.engine with
      partialByte := none
      service := some { v with half := false, termMark := false, dataLost := v.dataLost || s.srcSideEffect v } } := by
  have half : (s.halfRead v byte).engine.state = .reading ∧ (true : Bool) = true := ⟨reading, rfl⟩
  rw [State.discardPartial_eq (s := s.halfRead v byte) (v := { v with half := true }) rfl, State.discarded, State.partialLeft,
    State.wholeUnits, if_pos half, if_pos half, State.srcSideEffect_eq]
  rfl

end

/-- Settles O41: by the direction of the beat; a byte read goes on, is discarded at an abort, or is settled at the loss of the
grant. -/
theorem firstByteCommitsNothing : Obligations.FirstByteCommitsNothing := by
  intro s a ld term v b service beat uncut plain two byte whole
  have first : ¬v.lastByte b := by simp [Service.lastByte, two, byte, whole]
  refine ⟨fun read undecided => ?_, fun write => ?_⟩
  · have mark := Service.termMark_undecided undecided b term
    have taken : exec (.beatAnswer a ld term) s = .next ((s.beatDone v b).readHalf (v.marking b term)
        (readLane a.width b.addr ld)) := by
      rw [exec_plainAnswer_read service beat uncut plain read, State.readDone_first (v := v.marking b term) undecided first]
    refine ⟨(s.beatDone v b).halfRead (v.marking b term) (readLane a.width b.addr ld),
      s.srcSideEffect v, by rw [← mark]; rfl, s.srcSideEffect_eq v, fun keeps unaborted => ?_, fun keeps abort reading => ?_, fun g losing => ?_⟩
    · rw [taken, State.readHalf_goesOn (s := s.beatDone v b) (v := v.marking b term) keeps unaborted]
    · have stops : exec (.beatAnswer a ld term) s = .next (s.setEngine { s.engine with
          beat := none, rival := s.rivalOf v b .answer, partialByte := none
          service := some { v with termMark := false, dataLost := v.dataLost || s.srcSideEffect v } }).stopReading := by
        rw [taken, State.readHalf_aborted (s := s.beatDone v b) (v := v.marking b term) keeps abort,
          State.discardPartial_halfRead (s := s.beatDone v b) reading, ← whole]
        rfl
      refine ⟨fun move holds => ?_, fun bare => ?_⟩
      · rw [stops, State.stopReading_eq rfl, if_pos ⟨move, holds⟩]
        exact congrArg _ (State.proceed_held keeps)
      · rw [stops, State.stopReading_eq rfl]
        exact congrArg _ (if_neg (not_and_or.2 (bare.imp_right not_not.2)))
    · rw [taken, State.readHalf_losing (s := s.beatDone v b) losing]
      refine ⟨fun effect late => congrArg _ (if_pos ⟨effect, late⟩), fun off => congrArg _ (if_neg ?_)⟩
      rintro ⟨effect, late⟩
      rcases off with off | off
      · exact Bool.eq_false_iff.1 off effect
      · rw [off] at late; cases late
  · have taken : exec (.beatAnswer a ld term) s = .next ((s.beatDone v b).writeHalf (v.marking b term)) := by
      rw [exec_plainAnswer_write service beat uncut plain write, State.writeDone_eq]
      exact congrArg _ (if_neg first)
    have mark : (v.marking b term).termMark = if v.endDecided = none then v.unitMarked b term else v.termMark := by
      split
      · next undecided => exact Service.termMark_undecided undecided b term
      · next decided => exact Service.termMark_decided decided b term
    refine ⟨_, rfl, fun keeps => ?_, fun losing => ?_⟩
    · rw [taken, State.writeHalf_eq, ← mark]
      exact congrArg _ (State.proceed_held keeps)
    · rw [taken, State.writeHalf_eq, ← mark]
      exact congrArg _ (State.proceed_losing losing)

end Sys2Proof.Machine
end

section
/-! SUPPORT. A unit committed: what a write beat that ends a unit of a MOVE or a FILL makes of the service (R74, R75), and what the
comparison of a CHECK decides (R73, R87). -/

namespace Sys2Proof.Machine

/-! ## A unit written (R74, R75) -/

section
variable {s t : State} {v : Service}

/-- The run-end test at the commit of a unit written: a MATCH is none of a MOVE or a FILL, and a TERM mark counts with no end decided
(R75, R129). -/
def State.writeTest (s : State) (v : Service) : Option Cause :=
  runEndTest (s.ctx v.ctx).commit.residual false
    ((v.termMark || (s.engine.buffer.map BufUnit.marked).head?.getD false) && v.endDecided.isNone)

theorem State.writeUnitDone_test (s : State) (v : Service) :
    s.writeUnitDone v = s.afterUnit ((s.setCtx v.ctx (s.ctx v.ctx).commit).setEngine
      { s.engine with buffer := s.engine.buffer.tail, service := some (v.unitWritten (s.writeTest v)) }) v (s.writeTest v) := by
  have head : (match s.engine.buffer with | b :: _ => b.marked | [] => false) =
      (s.engine.buffer.map BufUnit.marked).head?.getD false := by
    cases s.engine.buffer <;> rfl
  unfold State.writeTest
  rw [← head]
  rfl

theorem Service.endDecided_unitWritten (v : Service) (found : Option Cause) :
    (v.unitWritten found).endDecided = found.or v.endDecided := by
  cases found <;> rfl

theorem State.afterUnit_count (s t : State) (v : Service) : s.afterUnit t v (some .count) = t.endService := by
  unfold State.afterUnit
  cases v.kind <;> simp

theorem State.afterUnit_term_ends (ends : v.kind ≠ .move ∨ s.engine.buffer.tail = [] ∨ s.srcSideEffect v = false) :
    s.afterUnit t v (some .term) = t.endService := by
  unfold State.afterUnit
  cases kind : v.kind with
  | move => exact if_pos (by simpa [kind] using ends)
  | fill => exact if_pos (by simp)
  | check => exact if_pos (by simp)

theorem State.afterUnit_term_drains (move : v.kind = .move) (holds : s.engine.buffer.tail ≠ [])
    (sideEffect : s.srcSideEffect v = true) : s.afterUnit t v (some .term) = (t.setEngState .draining).proceed := by
  unfold State.afterUnit
  rw [move]
  exact if_neg (by simp [holds, sideEffect])

theorem State.afterUnit_last (move : v.kind = .move) (last : s.engine.buffer.tail = []) :
    s.afterUnit t v none = t.endService := by
  unfold State.afterUnit
  rw [move]
  exact if_pos (by simp [last])

/-- A MOVE with units buffered goes on, unless a STREAM stop is due in WRITING. -/
theorem State.afterUnit_move (move : v.kind = .move) (holds : s.engine.buffer.tail ≠ []) :
    s.afterUnit t v none =
      if s.engine.state = .writing ∧ v.stopDue .dest = true then
        if s.srcSideEffect v = true then (t.setEngState .draining).proceed else t.endService
      else t.proceed := by
  unfold State.afterUnit
  rw [move]
  refine (if_neg (by simp [holds])).trans (if_congr ?_ rfl rfl)
  rw [Bool.and_eq_true, decide_eq_true_eq]
  rfl

/-- A FILL goes on, unless the service has its last unit, an abort is pending, or a STREAM stop is due. -/
theorem State.afterUnit_fill (fill : v.kind = .fill) :
    s.afterUnit t v none =
      if v.length ≤ v.unitsCommitted + 1 ∨ (s.ctx v.ctx).abortPending = true ∨ v.stopDue .dest = true then t.endService
      else t.proceed := by
  unfold State.afterUnit
  rw [fill]
  refine if_congr ?_ rfl rfl
  rw [Bool.or_eq_true, Bool.or_eq_true, Bool.or_eq_true, decide_eq_true_eq, or_assoc]
  simp only [Option.isSome_none, Bool.false_eq_true, false_or]
  rfl

end

section
variable {s : State} {v : Service} {b : Beat} {a : Answer}

/-- A plain answer to the write beat that ends a unit: it is committed, and `found` is what the tests find. -/
theorem exec_unitWritten (service : s.engine.service = some v) (beat : s.engine.beat = some b) (uncut : s.uncut v)
    (plain : s.plainAnswer v b a) (write : b.write = true) (last : v.lastByte b) (ld : Half) {term marked : Bool}
    (marks : marked = (v.endDecided.isNone &&
      (v.unitMarked b term || ((s.engine.buffer.map BufUnit.marked).head?.getD false)))) :
    ∃ found, found = (if (s.ctx v.ctx).residual = 1 then some .count else if marked = true then some .term else none) ∧
      exec (.beatAnswer a ld term) s = .next ((s.beatDone v b).afterUnit (s.unitWritten v b (found.or v.endDecided))
        (v.marking b term) found) := by
  have counted : (((v.marking b term).termMark || ((s.engine.buffer.map BufUnit.marked).head?.getD false)) &&
      v.endDecided.isNone) = marked := by
    rw [marks, Bool.and_comm]
    cases undecided : v.endDecided with
    | none => rw [Service.termMark_undecided undecided]
    | some k => rfl
  have test : (s.beatDone v b).writeTest (v.marking b term) =
      if (s.ctx v.ctx).residual = 1 then some .count else if marked = true then some .term else none := by
    rw [← counted]
    exact runEndTest_commit (s.ctx v.ctx) false _
  have written : s.unitWritten v b (((s.beatDone v b).writeTest (v.marking b term)).or v.endDecided) =
      ((s.beatDone v b).setCtx v.ctx (s.ctx v.ctx).commit).setEngine { (s.beatDone v b).engine with
        buffer := s.engine.buffer.tail
        service := some ((v.marking b term).unitWritten ((s.beatDone v b).writeTest (v.marking b term))) } := by
    have decided := (v.marking b term).endDecided_unitWritten ((s.beatDone v b).writeTest (v.marking b term))
    change _ = Option.or _ v.endDecided at decided
    rw [State.unitWritten, ← decided, ← Ctx.commit_eq]
    rfl
  refine ⟨(s.beatDone v b).writeTest (v.marking b term), test, ?_⟩
  rw [exec_plainAnswer_write service beat uncut plain write, State.writeDone_eq, written]
  exact congrArg _ ((if_pos last).trans (State.writeUnitDone_test _ _))

end

/-- Settles O42: the tests at the commit, and what follows each of them in a MOVE and in a FILL. -/
theorem writtenUnitCommitted : Obligations.WrittenUnitCommitted := by
  intro s a ld term marked v b service beat kind write uncut plain last marks
  obtain ⟨found, test, taken⟩ := exec_unitWritten service beat uncut plain write last ld marks
  have effect := s.srcSideEffect_eq v
  rw [taken]
  refine ⟨fun one => ?_, fun more mark => ?_, fun more unmarked => ?_⟩
  · rw [if_pos one] at test
    subst test
    rw [State.afterUnit_count]
    rfl
  · rw [if_neg more, if_pos mark] at test
    subst test
    refine ⟨fun ends => ?_, fun move holds sideEffect => ?_⟩
    · have finishes : v.kind ≠ .move ∨ s.engine.buffer.tail = [] ∨ s.srcSideEffect v = false := by
        rcases ends with fill | last | none
        · exact .inl (by simp [fill])
        · exact .inr (.inl last)
        · exact .inr (.inr (by simp [effect, none]))
      exact congrArg _ (State.afterUnit_term_ends (s := s.beatDone v b) (v := v.marking b term) finishes)
    · have lossy : s.srcSideEffect v = true := by simp [effect, move, sideEffect]
      exact congrArg _ (State.afterUnit_term_drains (s := s.beatDone v b) (v := v.marking b term) move holds lossy)
  · rw [if_neg more, if_neg (by simp [unmarked])] at test
    subst test
    have stop := v.stopDue_iff .dest
    have moves := fun move holds => State.afterUnit_move (s := s.beatDone v b) (t := s.unitWritten v b v.endDecided)
      (v := v.marking b term) move holds
    have fills := fun fill => State.afterUnit_fill (s := s.beatDone v b) (t := s.unitWritten v b v.endDecided)
      (v := v.marking b term) fill
    refine ⟨fun move last => ?_, fun fill finishes => ?_, fun left => ⟨fun stays => ?_, fun writing due => ⟨?_, ?_⟩⟩⟩
    · exact congrArg _ (State.afterUnit_last (s := s.beatDone v b) (v := v.marking b term) move last)
    · exact congrArg _ ((fills fill).trans (if_pos (finishes.imp_right .inl)))
    · have undue : v.stopDue .dest = true → v.kind = .move ∧ s.engine.state = .draining := fun due => by
        obtain ⟨stream, side, dropped, out⟩ := stop.1 due
        simpa [stream, side, dropped, out] using stays
      rcases left with ⟨move, holds⟩ | ⟨fill, room, unaborted⟩
      · refine congrArg _ ((moves move holds).trans (if_neg ?_))
        rintro ⟨writing, due⟩
        cases writing.symm.trans (undue due).2
      · refine congrArg _ ((fills fill).trans (if_neg ?_))
        rintro (full | abort | due)
        · exact absurd room (Nat.not_lt.2 full)
        · cases unaborted.symm.trans abort
        · cases fill.symm.trans (undue due).1
    · rintro ⟨move, sideEffect⟩
      rcases left with ⟨-, holds⟩ | ⟨fill, -, -⟩
      · have lossy : s.srcSideEffect v = true := by simp [effect, move, sideEffect]
        exact congrArg _ ((moves move holds).trans ((if_pos ⟨writing, stop.2 due⟩).trans (if_pos lossy)))
      · cases fill.symm.trans move
    · intro harmless
      rcases left with ⟨move, holds⟩ | ⟨fill, -, -⟩
      · have kept : ¬s.srcSideEffect v = true := by
          rcases harmless with fill | none
          · cases fill.symm.trans move
          · simp [effect, none]
        exact congrArg _ ((moves move holds).trans ((if_pos ⟨writing, stop.2 due⟩).trans (if_neg kept)))
      · exact congrArg _ ((fills fill).trans (if_pos (.inr (.inr (stop.2 due)))))

end Sys2Proof.Machine
end

section
/-! SUPPORT. A unit of a CHECK: compared under the mask and committed, or discarded after the decided end (R73, R75, R87). -/

namespace Sys2Proof.Machine

/-! ## The comparison under the mask (R73) -/

theorem zero_append_inj {x y : Byte} : 0#8 ++ x = 0#8 ++ y ↔ x = y := by
  refine ⟨fun same => ?_, fun same => by rw [same]⟩
  have low := congrArg BitVec.toNat same
  rw [BitVec.toNat_append, BitVec.toNat_append] at low
  exact BitVec.eq_of_toNat_eq (by simpa using low)

/-- Under the low byte of a mask the low byte alone is compared. -/
theorem and_lowMask (hi lo : Byte) (mask : Half) :
    (hi ++ lo : Half) &&& (mask &&& 0x00FF) = 0#8 ++ (lo &&& mask.extractLsb' 0 8) := by
  have mask' : mask &&& 0x00FF = (0#8 ++ mask.extractLsb' 0 8 : Half) := by
    calc
      mask &&& 0x00FF = halfOf (mask.extractLsb' 8 8) (mask.extractLsb' 0 8) &&& (0#8 ++ 0xFF#8 : Half) := by
        rw [halfOf_extractLsb]; rfl
      _ = _ := by 
        rw [halfOf, BitVec.and_append, BitVec.and_zero]
        exact congrArg _ BitVec.and_allOnes
  rw [mask', BitVec.and_append, BitVec.and_zero]

/-- The mask that counts for a unit: of a one-byte unit, its low byte. -/
def Ctx.unitMask (x : Ctx) (u : UnitSize) : Half := if u = .two then x.mask else x.mask &&& 0x00FF

theorem unitMatches_one (x : Ctx) (b : Byte) :
    unitMatches x [b] = true ↔ (0#8 ++ b : Half) &&& x.unitMask .one = x.pattern &&& x.unitMask .one := by
  have low := and_lowMask (x.pattern.extractLsb' 8 8) (x.pattern.extractLsb' 0 8) x.mask
  have whole : (x.pattern.extractLsb' 8 8 ++ x.pattern.extractLsb' 0 8 : Half) = x.pattern := halfOf_extractLsb x.pattern
  rw [whole] at low
  rw [Ctx.unitMask, if_neg (by decide), and_lowMask, low, zero_append_inj]
  exact decide_eq_true_iff

theorem unitMatches_two (x : Ctx) (b1 b0 : Byte) :
    unitMatches x [b1, b0] = true ↔ (b1 ++ b0 : Half) &&& x.unitMask .two = x.pattern &&& x.unitMask .two :=
  decide_eq_true_iff

section
variable {s : State} {v : Service} {b : Beat} {a : Answer}

/-- The unit that a read beat completes, as a number, matches as its bytes do. -/
theorem State.unitRead_matches (x : Ctx) {w : Width} {ld unit : Half} (halves : v.half = true → v.unit = .two)
    (brought : v.unit = .two ∧ b.byte = false ∧ unit = ld ∨
      ∃ y : Byte, b.byte = true ∧ y = readLane w b.addr ld ∧
        (v.unit = .one ∧ unit = 0#8 ++ y ∨ v.half = true ∧ ∃ p, s.engine.partialByte = some p ∧ unit = p ++ y)) :
    unitMatches x (s.unitRead v b w ld) = true ↔ unit &&& x.unitMask v.unit = x.pattern &&& x.unitMask v.unit := by
  rcases brought with ⟨two, word, rfl⟩ | ⟨y, byte, rfl, ⟨one, rfl⟩ | ⟨half, p, held, rfl⟩⟩
  · have split : (unit.extractLsb' 8 8 ++ unit.extractLsb' 0 8 : Half) = unit := halfOf_extractLsb unit
    rw [State.unitRead, if_pos word, unitMatches_two, split, two]
  · have whole : ¬v.half = true := fun half => by cases one.symm.trans (halves half)
    rw [State.unitRead, if_neg (by simp [byte]), if_neg whole, unitMatches_one, one]
  · rw [State.unitRead, if_neg (by simp [byte]), if_pos half, held, Option.getD_some, unitMatches_two, halves half]

/-! ## A unit of a CHECK read -/

/-- The state with a unit of a CHECK committed, and the run end `decided` at its commit. -/
def State.unitChecked (s : State) (v : Service) (decided : Option Cause) : State :=
  (s.setCtx v.ctx (s.ctx v.ctx).commit).setEngine { s.engine with
    partialByte := none
    service := some { v with
      half := false, termMark := false, unitsRead := v.unitsRead + 1, unitsCommitted := v.unitsCommitted + 1
      readAddr := v.srcStep.next v.unit v.readAddr, endDecided := decided } }

/-- The run-end tests at the commit of a unit of a CHECK (R75). -/
def State.checkTest (s : State) (v : Service) (bytes : List Byte) : Option Cause :=
  runEndTest (s.ctx v.ctx).commit.residual (unitMatches (s.ctx v.ctx) bytes) v.termMark

theorem State.readCheck_eq (s : State) (v : Service) (bytes : List Byte) :
    s.readCheck v bytes =
      if s.checkTest v bytes ≠ none then
        if v.burst = 0 then (s.unitChecked v (s.checkTest v bytes)).endService
        else (s.unitChecked v (s.checkTest v bytes)).proceed
      else if v.length ≤ v.unitsCommitted + 1 ∨ (s.ctx v.ctx).abortPending = true ∨ v.stopDue .source = true then
        (s.unitChecked v (s.checkTest v bytes)).endService
      else (s.unitChecked v (s.checkTest v bytes)).proceed := by
  unfold State.readCheck
  refine if_congr Option.isSome_iff_ne_none rfl (if_congr ?_ rfl rfl)
  rw [Bool.or_eq_true, Bool.or_eq_true, decide_eq_true_eq, or_assoc]
  rfl

/-- The record of a CHECK after a beat whose data is discarded (R87). -/
def Service.discarding (v : Service) (unitDone : Prop) [Decidable unitDone] : Service :=
  if unitDone then { v with half := false, readAddr := v.srcStep.next v.unit v.readAddr } else { v with half := true }

theorem State.readDiscarded_eq (s : State) (v : Service) (unitDone : Prop) [Decidable unitDone] :
    s.readDiscarded v (decide unitDone) =
      if v.burst = 0 then (s.setService (v.discarding unitDone)).endService
      else (s.setService (v.discarding unitDone)).proceed := by
  have record : (if decide unitDone = true then { v with half := false, readAddr := v.srcStep.next v.unit v.readAddr }
      else { v with half := true }) = v.discarding unitDone := if_congr decide_eq_true_iff rfl rfl
  have burst : (v.discarding unitDone).burst = v.burst := by
    unfold Service.discarding
    split <;> rfl
  unfold State.readDiscarded
  dsimp only
  rw [record, burst]

end

/-- Settles O43: after the decided end a beat is discarded; before it the unit is compared, committed and tested. -/
theorem checkedUnitCommitted : Obligations.CheckedUnitCommitted := by
  refine ⟨fun s a ld term v b service beat check read uncut plain decided => ?_,
    fun s a ld term v b unit service beat reading check read uncut plain last undecided halves brought => ?_⟩
  · have mark := Service.termMark_decided decided b term
    refine ⟨(s.beatDone v b).setService ((v.marking b term).discarding (v.lastByte b)), fun last => ?_, fun first => ?_, ?_⟩
    · rw [Service.discarding, if_pos last, mark, AddrStep.next_eq]
      rfl
    · rw [Service.discarding, if_neg first, mark]
      rfl
    · rw [exec_plainAnswer_read service beat uncut plain read, State.readDone_decided (v := v.marking b term) check decided]
      exact congrArg _ (State.readDiscarded_eq (s.beatDone v b) (v.marking b term) (v.lastByte b))
  · have mark := Service.termMark_undecided undecided b term
    have isMatch := State.unitRead_matches (s := s) (s.ctx v.ctx) halves brought
    have checks : (v.marking b term).kind = .check := check
    have taken : exec (.beatAnswer a ld term) s =
        .next ((s.beatDone v b).readCheck (v.marking b term) (s.unitRead v b a.width ld)) := by
      rw [exec_plainAnswer_read service beat uncut plain read, State.readDone_unit (v := v.marking b term) undecided last,
        if_pos checks]
      rfl
    have test : (s.beatDone v b).checkTest (v.marking b term) (s.unitRead v b a.width ld) =
        if (s.ctx v.ctx).residual = 1 then some .count
        else if unit &&& (s.ctx v.ctx).unitMask v.unit = (s.ctx v.ctx).pattern &&& (s.ctx v.ctx).unitMask v.unit then some .matched
        else if v.unitMarked b term = true then some .term else none := by
      rw [State.checkTest, runEndTest_commit, mark]
      exact if_congr .rfl rfl (if_congr isMatch rfl rfl)
    refine ⟨_, _, (s.beatDone v b).unitChecked (v.marking b term)
      ((s.beatDone v b).checkTest (v.marking b term) (s.unitRead v b a.width ld)), rfl, rfl, ?_, fun decided => ?_,
      fun goesOn => ?_⟩
    · rw [State.unitChecked, Ctx.commit_eq, AddrStep.next_eq, test]
      rfl
    · rw [taken, State.readCheck_eq, if_pos (by rw [test]; exact decided)]
      rfl
    · rw [taken, State.readCheck_eq, if_neg (by rw [test]; exact not_not.2 goesOn)]
      exact congrArg _ (if_congr (or_congr_right (or_congr_right (v.stopDue_iff .source))) rfl rfl)

end Sys2Proof.Machine
end

section
/-! SUPPORT. The beats that the engine issues (R78, R80, R83, R85, R86, R128, R132): the length of a burst, and each field of a beat. -/

namespace Sys2Proof.Machine

/-! ## The length of a burst (R86) -/

/-- The beats of the block of the first, at most 8 (R86). -/
def sameBlock (b : Addr × Bool) (x : Addr × Bool) : Bool := decide (x.1.extractLsb' 4 20 = b.1.extractLsb' 4 20)

theorem burstLength_cons (b : Addr × Bool) (bs : List (Addr × Bool)) :
    burstLength (b :: bs) = (((b :: bs).take 8).takeWhile (sameBlock b)).length := rfl

theorem burstLength_pos (b : Addr × Bool) (bs : List (Addr × Bool)) : 1 ≤ burstLength (b :: bs) := by
  rw [burstLength_cons, List.take_succ_cons, List.takeWhile_cons, sameBlock, if_pos (decide_eq_true rfl)]
  exact Nat.le_add_left 1 _

theorem burstLength_le (b : Addr × Bool) (bs : List (Addr × Bool)) :
    burstLength (b :: bs) ≤ 8 ∧ burstLength (b :: bs) ≤ (b :: bs).length := by
  have within : burstLength (b :: bs) ≤ ((b :: bs).take 8).length := (List.takeWhile_sublist _).length_le
  rw [List.length_take] at within
  exact Nat.le_min.1 within

/-- The beats of a burst are the first ones to come. -/
theorem take_burstLength (b : Addr × Bool) (bs : List (Addr × Bool)) :
    (b :: bs).take (burstLength (b :: bs)) = ((b :: bs).take 8).takeWhile (sameBlock b) := by
  have same : ((b :: bs).take 8).take (burstLength (b :: bs)) = ((b :: bs).take 8).takeWhile (sameBlock b) :=
    (List.prefix_iff_eq_take.1 (List.takeWhile_prefix _)).symm
  rw [← same, List.take_take, Nat.min_eq_left (burstLength_le b bs).1]

/-- A burst that holds fewer than 8 beats ends at the block, or with the last beat. -/
theorem burstLength_maximal {b x : Addr × Bool} {bs : List (Addr × Bool)} (short : burstLength (b :: bs) < 8)
    (next : (b :: bs)[burstLength (b :: bs)]? = some x) : x.1.extractLsb' 4 20 ≠ b.1.extractLsb' 4 20 := by
  have first : (((b :: bs).take 8).dropWhile (sameBlock b)).head? = some x := by
    have at8 := (List.getElem?_take_of_lt short).trans next
    rw [← List.takeWhile_append_dropWhile (p := sameBlock b) (l := (b :: bs).take 8),
      List.getElem?_append_right (Nat.le_of_eq (burstLength_cons b bs).symm), burstLength_cons, Nat.sub_self,
      ← List.head?_eq_getElem?] at at8
    exact at8
  have other := List.head?_dropWhile_not (sameBlock b) ((b :: bs).take 8)
  rw [first] at other
  exact of_decide_eq_false other

/-! ## The fields of a beat (R78, R80, R128, R132) -/

section
variable {s : State} {v : Service}

/-- RAn of the bound line, on the device side (R128). -/
theorem Service.answerLine_eq_some (v : Service) (reading : Bool) (m : LineNo) :
    v.answerLine (!reading) = some m ↔ ∃ d p, v.trigger = .line m d p ∧ (d = .source ↔ reading = true) := by
  unfold Service.answerLine
  cases v.trigger with
  | soft => simp
  | line n side pacing => cases side <;> cases reading <;> simp

theorem State.drivesTerm_iff (s : State) (v : Service) (reading byte : Bool) :
    s.drivesTerm v (!reading) byte = true ↔
      v.answerLine (!reading) ≠ none ∧ (v.unit = .one ∨ byte = false ∨ v.half = true) ∧
        (reading = true → v.endDecided = none) ∧
        (s.ctx v.ctx).residual.toNat = (if reading then s.engine.buffer.length else 0) + 1 := by
  unfold State.drivesTerm
  cases reading <;> simp [Option.isSome_iff_ne_none, and_assoc, or_assoc]

theorem Window.mayBurst_iff (w : Window) (st : AddrStep) (reading : Bool) :
    w.mayBurst st reading = true ↔ st = .inc ∧ w.burstAllowed = true ∧ w.demoted = false ∧ w.inForce ≠ none ∧
      ¬(reading = true ∧ w.sideEffect = true) := by
  unfold Window.mayBurst
  cases reading <;> simp [Option.isSome_iff_ne_none, and_assoc]

/-- A word beat carries a whole two-byte unit over a side of 16 bits (R80). -/
def Service.byteBeat (v : Service) (wf : Option Width) : Bool := !(wf = some .w16 && v.unit = .two && !v.half)

theorem Service.byteBeat_eq_false (v : Service) (wf : Option Width) :
    v.byteBeat wf = false ↔ wf = some .w16 ∧ v.unit = .two ∧ v.half = false := by
  simp [Service.byteBeat, and_assoc]

/-- The beats of the burst that begins with the next beat, or of the one that it goes on with (R85, R86). -/
def State.planned (s : State) (v : Service) (w : Window) (base : Addr) (reading : Bool) : Nat :=
  if v.burst ≠ 0 then v.burst
  else if w.mayBurst (if reading then v.srcStep else v.dstStep) reading then
    burstLength (phaseBeats v.unit w.inForce v.half (s.unitsLeft v) base)
  else 1

/-- What the next beat drives on the lanes (R83). -/
def State.lanes (s : State) (v : Service) (wf : Option Width) (a : Addr) (reading : Bool) : Option Byte × Option Byte :=
  if reading then (none, none) else writeLanes wf (v.byteBeat wf) a (s.writeUnit v) v.half

/-- The next beat of the phase, over the window `w` from the address `base` of the unit under way. -/
def State.nextBeat (s : State) (v : Service) (w : Window) (base : Addr) (reading : Bool) : Beat :=
  { write := !reading, addr := if v.half then base + 1 else base, byte := v.byteBeat w.inForce
    bur := decide (1 < s.planned v w base reading), inBurst := decide (v.burst ≠ 0) || decide (1 < s.planned v w base reading)
    hi := (s.lanes v w.inForce (if v.half then base + 1 else base) reading).1
    lo := (s.lanes v w.inForce (if v.half then base + 1 else base) reading).2
    ra := v.answerLine (!reading), term := s.drivesTerm v (!reading) (v.byteBeat w.inForce) }

/-- The window on whose side the phase works. -/
def State.phaseWindow (s : State) (v : Service) (reading : Bool) : Window := s.window (if reading then v.srcWin else v.dstWin)

/-- The address of the unit under way, on the side on which the phase works. -/
def State.phaseBase (s : State) (v : Service) (reading : Bool) : Addr :=
  if reading then v.readAddr else (s.ctx v.ctx).curDst

/-- The engine issues the next beat, and the burst has one beat less to come. -/
theorem State.issueBeat_eq (service : s.engine.service = some v) :
    let reading := decide (s.engine.state = .reading)
    let w := s.phaseWindow v reading
    let base := s.phaseBase v reading
    s.issueBeat = s.setEngine { s.engine with
      beat := some (s.nextBeat v w base reading), service := some { v with burst := s.planned v w base reading - 1 } } := by
  unfold State.issueBeat
  rw [service]
  by_cases phase : s.engine.state = .reading
  · rw [decide_eq_true phase]
    simp only [phase, decide_true, if_true]
    rfl
  · rw [decide_eq_false phase]
    simp only [phase, decide_false, if_false]
    rfl

/-! ## The lanes of a write beat (Table 4-5, R83) -/

/-- The bytes of the unit being written, in bus order: `x1`, and `x0` where the unit has two. -/
def UnitSize.spells (u : UnitSize) (bytes : List Byte) (x1 x0 : Byte) : Prop :=
  u = .two ∧ bytes = [x1, x0] ∨ u = .one ∧ bytes = [x1]

theorem State.writeUnit_fill_two (fill : v.kind = .fill) (two : v.unit = .two) :
    s.writeUnit v = [(s.ctx v.ctx).pattern.extractLsb' 8 8, (s.ctx v.ctx).pattern.extractLsb' 0 8] := by
  simp only [State.writeUnit, fill, two]

theorem State.writeUnit_fill_one (fill : v.kind = .fill) (one : v.unit = .one) :
    s.writeUnit v = [(s.ctx v.ctx).pattern.extractLsb' 0 8] := by
  simp only [State.writeUnit, fill, one]

theorem State.writeUnit_move {bytes : List Byte} (move : v.kind = .move)
    (head : (s.engine.buffer.map BufUnit.bytes).head? = some bytes) : s.writeUnit v = bytes := by
  unfold State.writeUnit
  rw [move]
  cases buffer : s.engine.buffer with
  | nil => rw [buffer] at head; cases head
  | cons b rest => rw [buffer] at head; exact Option.some.inj head

/-- A FILL writes its pattern, and a MOVE the oldest unit of the buffer (R71, R72). -/
theorem State.writeUnit_spells {x1 x0 : Byte}
    (unit : v.kind = .fill ∧ v.unit = .two ∧ (s.ctx v.ctx).pattern = x1 ++ x0 ∨
      v.kind = .fill ∧ v.unit = .one ∧ (s.ctx v.ctx).pattern.extractLsb' 0 8 = x1 ∨
      v.kind = .move ∧ v.unit = .two ∧ (s.engine.buffer.map BufUnit.bytes).head? = some [x1, x0] ∨
      v.kind = .move ∧ v.unit = .one ∧ (s.engine.buffer.map BufUnit.bytes).head? = some [x1]) :
    v.unit.spells (s.writeUnit v) x1 x0 := by
  rcases unit with ⟨fill, two, pattern⟩ | ⟨fill, one, low⟩ | ⟨move, two, head⟩ | ⟨move, one, head⟩
  · refine .inl ⟨two, ?_⟩
    rw [State.writeUnit_fill_two fill two, pattern, BitVec.extractLsb'_append_eq_left, BitVec.extractLsb'_append_eq_right]
  · refine .inr ⟨one, ?_⟩
    rw [State.writeUnit_fill_one fill one, low]
  · exact .inl ⟨two, State.writeUnit_move move head⟩
  · exact .inr ⟨one, State.writeUnit_move move head⟩

/-- The lanes that carry the byte `x` of a byte beat (R83). -/
def byteLanes (wf : Option Width) (a : Addr) (x : Byte) : Option Byte × Option Byte :=
  if wf = none then (some x, some x)
  else if wf = some .w16 ∧ a.getLsbD 0 = false then (some x, none)
  else (none, some x)

theorem byteLanes_w8 {wf : Option Width} (eight : wf = some .w8) (a : Addr) (x : Byte) : byteLanes wf a x = (none, some x) := by
  rw [eight]
  rfl

theorem byteLanes_even {wf : Option Width} {a : Addr} (wide : wf = some .w16) (even : a.getLsbD 0 = false) (x : Byte) :
    byteLanes wf a x = (some x, none) :=
  (if_neg (by simp [wide])).trans (if_pos ⟨wide, even⟩)

theorem byteLanes_odd {wf : Option Width} {a : Addr} (wide : wf = some .w16) (odd : a.getLsbD 0 = true) (x : Byte) :
    byteLanes wf a x = (none, some x) :=
  (if_neg (by simp [wide])).trans (if_neg fun low => Bool.false_ne_true (low.2.symm.trans odd))

theorem byteLanes_unlearned {wf : Option Width} (unlearned : wf = none) (a : Addr) (x : Byte) :
    byteLanes wf a x = (some x, some x) :=
  if_pos unlearned

theorem State.lanes_byte {wf : Option Width} (byte : v.byteBeat wf = true) (a : Addr) :
    s.lanes v wf a false = byteLanes wf a ((s.writeUnit v).getD (if v.half then 1 else 0) 0) := by
  rw [State.lanes, if_neg (by decide), byte]
  unfold writeLanes byteLanes
  cases wf with
  | none => rfl
  | some width =>
    cases width with
    | w8 => rfl
    | w16 => cases low : a.getLsbD 0 <;> simp

theorem State.lanes_word {wf : Option Width} (word : v.byteBeat wf = false) (a : Addr) :
    s.lanes v wf a false = (some ((s.writeUnit v).getD 0 0), some ((s.writeUnit v).getD 1 0)) := by
  rw [State.lanes, if_neg (by decide), word]
  rfl

/-- The byte of the unit that a byte beat carries. -/
theorem UnitSize.spells.byte {u : UnitSize} {bytes : List Byte} {x1 x0 : Byte} (unit : u.spells bytes x1 x0) {half : Bool}
    (halves : half = true → u = .two) : bytes.getD (if half = true then 1 else 0) 0 = if half = true then x0 else x1 := by
  rcases unit with ⟨-, rfl⟩ | ⟨one, rfl⟩
  · cases half <;> rfl
  · cases half with
    | false => rfl
    | true => cases one.symm.trans (halves rfl)

end

/-- Settles O39: the length of a burst, then the fields of a beat one by one. -/
theorem beatsShaped : Obligations.BeatsShaped := by
  refine ⟨fun b bs => ⟨burstLength_pos b bs, (burstLength_le b bs).1, (burstLength_le b bs).2, fun x carried => ?_,
    fun short x next => burstLength_maximal short next⟩, fun s v service onBus => ?_⟩
  · rw [take_burstLength] at carried
    have same : sameBlock b x = true := List.mem_takeWhile_imp carried
    exact of_decide_eq_true same
  · have issued := State.issueBeat_eq service
    dsimp only at issued
    have phase : decide (s.engine.state = .reading) = true ↔ s.engine.state = .reading := decide_eq_true_iff
    generalize decide (s.engine.state = .reading) = reading at issued phase
    generalize window : s.phaseWindow v reading = w at issued
    generalize address : s.phaseBase v reading = base at issued
    have more : 1 < s.planned v w base reading ↔ s.planned v w base reading - 1 ≠ 0 := by omega
    have mayBurst := w.mayBurst_iff (if reading then v.srcStep else v.dstStep) reading
    refine ⟨s.nextBeat v w base reading, s.planned v w base reading - 1, w, base, reading, issued, phase, window.symm,
      address.symm, rfl, rfl, v.byteBeat_eq_false _, v.answerLine_eq_some reading, s.drivesTerm_iff v reading _,
      decide_eq_true_iff.trans more, ?_, fun goesOn => ?_, fun fresh single => ?_, fun fresh up allowed undemoted known harmless => ?_,
      fun read => ?_, fun x1 x0 write unit halves => ?_⟩
    · rw [← more]
      simp [State.nextBeat]
    · rw [State.planned, if_pos goesOn]
      omega
    · rw [State.planned, if_neg (not_not.2 fresh), if_neg (mt mayBurst.1 single)]
    · rw [State.planned, if_neg (not_not.2 fresh), if_pos (mayBurst.2 ⟨up, allowed, undemoted, known, harmless⟩)]
    · subst read
      exact ⟨rfl, rfl⟩
    · subst write
      have spells := State.writeUnit_spells unit
      have carries : v.byteBeat w.inForce = true → s.lanes v w.inForce (if v.half then base + 1 else base) false =
          byteLanes w.inForce (if v.half then base + 1 else base) (if v.half = true then x0 else x1) := fun byte => by
        rw [State.lanes_byte byte, spells.byte halves]
      refine ⟨fun word => ?_, fun byte eight => ?_, fun byte wide even => ?_, fun byte wide odd => ?_, fun byte unlearned => ?_⟩
      · obtain ⟨-, two, -⟩ := (v.byteBeat_eq_false _).1 word
        have bytes : s.writeUnit v = [x1, x0] := by simpa [UnitSize.spells, two] using spells
        have drives := s.lanes_word word (if v.half then base + 1 else base)
        rw [bytes] at drives
        exact Prod.ext_iff.1 drives
      · exact Prod.ext_iff.1 ((carries byte).trans (byteLanes_w8 eight _ _))
      · exact Prod.ext_iff.1 ((carries byte).trans (byteLanes_even wide even _))
      · exact Prod.ext_iff.1 ((carries byte).trans (byteLanes_odd wide odd _))
      · exact Prod.ext_iff.1 ((carries byte).trans (byteLanes_unlearned unlearned _ _))

end Sys2Proof.Machine
end

section
/-! SUPPORT. The fence around the windows (R38, R78): the units of a run lie in the window of their side one by one, and so does the
beat in flight, which is that of the unit under way. -/

namespace Sys2Proof.Machine

/-! ## The units of a run (R16, R76) -/

theorem AddrStep.after_add (st : AddrStep) (u : UnitSize) (a : Addr) (m n : Nat) :
    st.after u (st.after u a m) n = st.after u a (m + n) := by
  induction n with
  | zero => rfl
  | succ n ih => exact congrArg (st.next u) ih

theorem AddrStep.toNat_after_inc {u : UnitSize} {a : Addr} {n : Nat} (room : a.toNat + n * u.bytes < 2 ^ 24) :
    (AddrStep.inc.after u a n).toNat = a.toNat + n * u.bytes := by
  induction n with
  | zero => simp [AddrStep.after]
  | succ n ih =>
    rw [Nat.succ_mul] at room ⊢
    have before := ih (by omega)
    have inside : (AddrStep.inc.after u a n).toNat + u.bytes < 2 ^ 24 := by omega
    rw [AddrStep.after, AddrStep.next, if_pos inside, BitVec.toNat_add, BitVec.toNat_ofNat]
    cases u <;> simp only [UnitSize.bytes] at * <;> omega

theorem AddrStep.toNat_after_dec {u : UnitSize} {a : Addr} {n : Nat} (room : n * u.bytes ≤ a.toNat) :
    (AddrStep.dec.after u a n).toNat = a.toNat - n * u.bytes := by
  induction n with
  | zero => simp [AddrStep.after]
  | succ n ih =>
    rw [Nat.succ_mul] at room ⊢
    have before := ih (by omega)
    have inside : u.bytes ≤ (AddrStep.dec.after u a n).toNat := by omega
    rw [AddrStep.after, AddrStep.next, if_pos inside, BitVec.toNat_sub_of_le (by
      rw [BitVec.le_def, BitVec.toNat_ofNat]
      exact (Nat.mod_le _ _).trans inside), BitVec.toNat_ofNat]
    cases u <;> simp only [UnitSize.bytes] at * <;> omega

theorem AddrStep.after_hold (u : UnitSize) (a : Addr) (n : Nat) : AddrStep.hold.after u a n = a := by
  induction n with
  | zero => rfl
  | succ n ih => exact ih

/-- The bytes of a unit at `a` lie inside the window, and a two-byte unit at an even address. -/
structure UnitInside (w : Window) (u : UnitSize) (a : Addr) : Prop where
  lower : w.base.toNat ≤ a.toNat
  upper : a.toNat + u.bytes ≤ w.limit.toNat + 1
  even : u = .two → a.getLsbD 0 = false

/-- An address is even by its lowest bit. -/
theorem getLsbD_zero_iff (a : Addr) : a.getLsbD 0 = false ↔ a.toNat % 2 = 0 := by
  rw [BitVec.getLsbD, Nat.testBit_zero, decide_eq_false_iff_not]
  omega

/-- A unit of a run whose span the window covers lies inside it. -/
theorem UnitInside.of_covers {w : Window} {u : UnitSize} {start : Addr} {st : AddrStep} {count : Half} {k : Nat}
    (covered : w.covers (span start st count u) = true) (even : u = .two → start.getLsbD 0 = false) (unit : k < count.toNat) :
    UnitInside w u (st.after u start k) := by
  obtain ⟨inc, dec, hold⟩ := (Window.covers_span w start st count u).1 covered
  have limit := w.limit.isLt
  rw [getLsbD_zero_iff] at even
  cases st with
  | inc =>
    obtain ⟨lower, upper⟩ := inc rfl
    have at' : (AddrStep.inc.after u start k).toNat = start.toNat + k * u.bytes := AddrStep.toNat_after_inc (by
      cases u <;> simp only [UnitSize.bytes] at * <;> omega)
    refine ⟨?_, ?_, fun two => ?_⟩
    · omega
    · cases u <;> simp only [UnitSize.bytes] at * <;> omega
    · subst two
      rw [getLsbD_zero_iff, at', UnitSize.bytes]
      have := even rfl
      omega
  | dec =>
    obtain ⟨lower, upper⟩ := dec rfl
    have at' : (AddrStep.dec.after u start k).toNat = start.toNat - k * u.bytes := AddrStep.toNat_after_dec (by
      cases u <;> simp only [UnitSize.bytes] at * <;> omega)
    refine ⟨?_, ?_, fun two => ?_⟩
    · cases u <;> simp only [UnitSize.bytes] at * <;> omega
    · omega
    · subst two
      rw [getLsbD_zero_iff, at', UnitSize.bytes]
      have := even rfl
      omega
  | hold =>
    obtain ⟨lower, upper⟩ := hold rfl
    rw [AddrStep.after_hold]
    exact ⟨lower, upper, fun two => (getLsbD_zero_iff start).2 (even two)⟩

/-- Of a fenced side the units still to come lie inside the window. -/
theorem SideFenced.unit {w : Window} {u : UnitSize} {count moved : Half} {start current : Addr} {st : AddrStep}
    (fenced : SideFenced w u count moved start current st) {k : Nat} (left : moved.toNat + k < count.toNat) :
    UnitInside w u (st.after u current k) := by
  rw [fenced.current, AddrStep.after_add]
  exact .of_covers fenced.range fenced.even left

/-! ## The beat of the unit under way (R80) -/

/-- A beat of a unit that lies inside the window lies inside it. -/
theorem UnitInside.beat {w : Window} {u : UnitSize} {a : Addr} (unit : UnitInside w u a) {b : Beat} {half : Bool}
    (addr : b.addr = a + if half then 1 else 0) (halves : half = true → u = .two)
    (word : b.byte = false → u = .two ∧ half = false) : b.inside w := by
  obtain ⟨lower, upper, even⟩ := unit
  have limit := w.limit.isLt
  cases half with
  | true =>
    have two := halves rfl
    subst two
    have byte : b.byte = true := Bool.eq_true_of_not_eq_false fun e => Bool.noConfusion (word e).2
    change a.toNat + 2 ≤ w.limit.toNat + 1 at upper
    have next : b.addr.toNat = a.toNat + 1 := by
      rw [addr, if_pos rfl, BitVec.toNat_add]
      exact Nat.mod_eq_of_lt (by change a.toNat + 1 < _; omega)
    refine ⟨by omega, ?_, fun e => by rw [byte] at e; cases e⟩
    rw [byte, if_pos rfl]
    omega
  | false =>
    have same : b.addr = a := addr.trans (BitVec.add_zero a)
    rw [Beat.inside, same]
    refine ⟨lower, ?_, fun e => even (word e).1⟩
    cases byte : b.byte with
    | true =>
      rw [if_pos rfl]
      cases u <;> simp only [UnitSize.bytes] at upper <;> omega
    | false =>
      obtain ⟨rfl, -⟩ := word byte
      change a.toNat + 2 ≤ w.limit.toNat + 1 at upper
      rw [if_neg (by decide)]
      omega

section
variable {s : State} {v : Service}

theorem Kind.usesDest_eq (k : Kind) : k.usesDest = decide (k ≠ .check) := by cases k <;> rfl

/-- While a service reads, the read address is that of a unit of the run still to commit (R71, R73, R87). -/
theorem Sound.readAddr (sound : Sound s) (service : s.engine.service = some v) (reading : s.engine.state = .reading) :
    ∃ k, v.readAddr = v.srcStep.after v.unit (s.ctx v.ctx).curSrc k ∧ k < (s.ctx v.ctx).residual.toNat := by
  have fenced := sound.fence.service v service
  have serves := sound.core.engine.service v service
  cases kind : v.kind with
  | move =>
    have left := (sound.core.service v service).left
    have read := serves.reads reading kind
    obtain ⟨buffered, -⟩ := serves.buffered kind
    exact ⟨_, fenced.move kind, by omega⟩
  | fill => exact absurd kind (serves.reading reading)
  | check =>
    obtain ⟨d, n, ahead, -, unread, within, -⟩ := fenced.check kind
    exact ⟨d, ahead, by omega⟩

end

/-- Settles O60: the beat is that of the unit under way, which is a unit of the run still to commit on the side of the beat. -/
theorem beatsInsideWindows : Obligations.BeatsInsideWindows := by
  intro s v b sound service beat
  have active := sound.core.serving_active service
  have started : (s.ctx v.ctx).state.started = true := by rw [active]; rfl
  have serves := sound.core.engine.service v service
  have matched := sound.core.service v service
  have sum := (sound.core.counts v.ctx).sum started
  have fenced := sound.fence.contexts v.ctx started
  have addr := (sound.fence.service v service).beat b beat
  obtain ⟨direction, word⟩ := serves.direction b beat
  cases write : b.write with
  | true =>
    have reads : s.engine.state ≠ .reading := by simpa [write] using direction.symm
    have uses : (s.ctx v.ctx).kind.usesDest = true := by
      rw [← matched.kind, Kind.usesDest_eq]
      exact decide_eq_true (serves.writing reads)
    have side := fenced.dest uses
    rw [← matched.dstWin, ← matched.dstStep, ← matched.unit] at side
    have left : (s.ctx v.ctx).residual.toNat ≠ 0 := fun none =>
      sound.core.writes beat service write (BitVec.eq_of_toNat_eq none)
    rw [Service.beatWindow, if_pos write]
    refine ⟨side.live, (side.unit (k := 0) (by omega)).beat ?_ serves.half word⟩
    rw [addr, if_pos write]
    rfl
  | false =>
    have reading : s.engine.state = .reading := by simpa [write] using direction.symm
    have uses : (s.ctx v.ctx).kind.usesSource = true := by
      rw [← matched.kind, Kind.usesSource_eq]
      exact decide_eq_true (serves.reading reading)
    have side := fenced.source uses
    rw [← matched.srcWin, ← matched.srcStep, ← matched.unit] at side
    obtain ⟨k, ahead, unread⟩ := sound.readAddr service reading
    rw [Service.beatWindow, if_neg (by simp [write])]
    refine ⟨side.live, (side.unit (k := k) (by omega)).beat ?_ serves.half word⟩
    rw [addr, if_neg (by simp [write]), ahead]

end Sys2Proof.Machine
end

section
/-! SUPPORT. The engine by itself (R65 to R73, R91 to R95): what a service and the holding buffer are to each other whatever beat is in
flight, the engine on the bus between two beats, the engine with its service removed, and the engine over a re-evaluation of work
present. -/

namespace Sys2Proof.Machine

/-! ## A service and the holding buffer -/

/-- A service record and the holding buffer fit together and fit the engine state, whatever beat is in flight: what `ServiceSound`
says but for the beat. -/
structure Fits (v : Service) (e : Engine) : Prop where
  length : 1 ≤ v.length ∧ v.length * v.unit.bytes ≤ 16
  units : ∀ b ∈ e.buffer, b.bytes.length = v.unit.bytes
  buffered : v.kind = .move → v.unitsCommitted + e.buffer.length = v.unitsRead ∧ v.unitsRead ≤ v.length
  unbuffered : v.kind ≠ .move → e.buffer = []
  reading : e.state = .reading → v.kind ≠ .fill
  reads : e.state = .reading → v.kind = .move → v.unitsRead < v.length
  checks : e.state = .reading → v.kind = .check → v.endDecided = none →
    v.unitsRead = v.unitsCommitted ∧ v.unitsCommitted < v.length
  writing : e.state ≠ .reading → v.kind ≠ .check
  moves : e.state ≠ .reading → v.kind = .move → e.buffer ≠ []
  fills : v.kind = .fill → v.unitsCommitted < v.length ∧ v.endDecided = none
  pinned : e.state = .pinned → v.kind = .move
  partialByte : e.partialByte.isSome = true → e.state = .reading ∧ v.half = true
  decided : v.endDecided ≠ none →
    (e.state = .reading ∧ v.kind = .check ∧ e.partialByte = none) ∨ e.state = .draining ∨
      (e.state = .pinned ∧ v.pinEnding = true)
  half : v.half = true → v.unit = .two

theorem ServiceSound.fits {v : Service} {e : Engine} (sound : ServiceSound v e) : Fits v e := { sound with }

/-- A beat of the phase: it reads in READING and writes otherwise, and a word beat carries a whole two-byte unit (R80). -/
def Service.directs (v : Service) (state : EngState) (b : Beat) : Prop :=
  b.write = (state ≠ .reading : Bool) ∧ (b.byte = false → v.unit = .two ∧ v.half = false)

theorem Fits.sound {v : Service} {e : Engine} (fits : Fits v e) {b : Beat} (beat : e.beat = some b)
    (directs : v.directs e.state b) : ServiceSound v e :=
  { fits with
    direction := fun c inFlight => by
      obtain rfl := Option.some.inj (beat.symm.trans inFlight)
      exact directs
    fresh := fun _ none => by cases beat.symm.trans none }

/-! ## On the bus between two beats -/

/-- The engine is on the bus with the service `v`, whatever beat is in flight (R91). -/
structure OnBus (e : Engine) (v : Service) : Prop where
  onBus : e.state.onBus = true
  own : e.lown = true
  request : e.lreq = true
  fits : Fits v e

theorem EngState.serving_of_onBus : ∀ {state : EngState}, state.onBus = true → state.serving = true
  | .reading, _ | .writing, _ | .draining, _ => rfl

theorem EngState.ne_idle_of_serving {state : EngState} (serving : state.serving = true) : state ≠ .idle := by
  rintro rfl
  cases serving

theorem EngineSound.requests {e : Engine} {v : Service} (sound : EngineSound e) (service : e.service = some v) :
    e.lreq = true :=
  sound.request.2 (EngState.ne_idle_of_serving (sound.serving.symm.trans (by rw [service]; rfl)))

theorem EngineSound.bus {e : Engine} {v : Service} (sound : EngineSound e) (service : e.service = some v)
    (onBus : e.state.onBus = true) : OnBus e v :=
  ⟨onBus, sound.own onBus, sound.requests service, (sound.service v service).fits⟩

/-- With a beat of the phase in flight the engine is sound (R78, R91). -/
theorem OnBus.sound {e : Engine} {v : Service} (bus : OnBus e v) (service : e.service = some v) {b : Beat}
    (beat : e.beat = some b) (directs : v.directs e.state b) : EngineSound e where
  serving := by rw [service, EngState.serving_of_onBus bus.onBus]; rfl
  beat _ := bus.onBus
  own _ := bus.own
  owned _ := .inl bus.onBus
  request := ⟨fun _ => EngState.ne_idle_of_serving (EngState.serving_of_onBus bus.onBus), fun _ => bus.request⟩
  losing _ := by rw [beat]; rfl
  empty none := by cases service.symm.trans none
  service u inFlight := by
    obtain rfl := Option.some.inj (service.symm.trans inFlight)
    exact bus.fits.sound beat directs

/-- The engine issues the next beat: one of the phase (R78). -/
theorem OnBus.issueBeat {s : State} {v : Service} (bus : OnBus s.engine v) (service : s.engine.service = some v) :
    EngineSound s.issueBeat.engine := by
  have issued := State.issueBeat_eq service
  dsimp only at issued
  rw [issued]
  generalize s.planned v _ _ _ - 1 = n
  refine OnBus.sound (v := { v with burst := n }) ⟨bus.onBus, bus.own, bus.request, { bus.fits with }⟩ rfl rfl ⟨?_, fun word => ?_⟩
  · exact (decide_not (p := s.engine.state = .reading)).symm
  · exact ((v.byteBeat_eq_false _).1 word).2

/-! ## The service removed -/

/-- The engine has no service and nothing buffered; while it owns the bus it asks. -/
structure Engine.Free (e : Engine) : Prop where
  service : e.service = none
  buffer : e.buffer = []
  partialByte : e.partialByte = none
  beat : e.beat = none
  asks : e.lown = true → e.state = .asking ∧ e.lreq = true

theorem EngineSound.free {e : Engine} (sound : EngineSound e) (none : e.service = none) : e.Free := by
  obtain ⟨buffer, partialByte⟩ := sound.empty none
  have unserved : e.state.serving = false := by rw [← sound.serving, none]; rfl
  have off : ¬e.state.onBus = true := fun onBus => by
    cases unserved.symm.trans (EngState.serving_of_onBus onBus)
  refine ⟨none, buffer, partialByte, Option.not_isSome_iff_eq_none.1 (mt sound.beat off), fun own => ?_⟩
  have asking := (sound.owned own).resolve_left off
  exact ⟨asking, sound.request.2 (by simp [asking])⟩

/-- An engine that asks or rests, with no service and no grant on its way out, is sound. -/
theorem Engine.Free.sound {e : Engine} (free : e.Free) (keeps : e.losing = none)
    (rests : e.state = .asking ∧ e.lreq = true ∨ e.state = .idle ∧ e.lreq = false) : EngineSound e := by
  obtain ⟨service, buffer, partialByte, beat, asks⟩ := free
  have off : ¬e.state.onBus = true := by rcases rests with ⟨e, -⟩ | ⟨e, -⟩ <;> simp [e, EngState.onBus]
  refine ⟨?_, fun some => ?_, fun onBus => absurd onBus off, fun own => .inr (asks own).1, ?_, fun some => ?_,
    fun _ => ⟨buffer, partialByte⟩, fun v inFlight => by cases service.symm.trans inFlight⟩
  · rw [service]
    rcases rests with ⟨e, -⟩ | ⟨e, -⟩ <;> rw [e] <;> rfl
  · rw [beat] at some; cases some
  · rcases rests with ⟨e, request⟩ | ⟨e, request⟩ <;> simp [e, request]
  · rw [keeps] at some; cases some

/-! ## A re-evaluation of work present (R92) -/

theorem EngineSound.reasked {e : Engine} (sound : EngineSound e) (eligible : Bool) : EngineSound (e.reasked eligible) := by
  have unserved : e.state.serving = false → e.service = none := fun off =>
    Option.not_isSome_iff_eq_none.1 (by rw [sound.serving, off]; decide)
  have keeps : e.Free → e.losing = none := fun free =>
    Option.not_isSome_iff_eq_none.1 fun losing => by have := sound.losing losing; rw [free.beat] at this; cases this
  unfold Engine.reasked
  split
  · next asks =>
    have free := sound.free (unserved (by rw [asks.1]; rfl))
    exact Engine.Free.sound ⟨free.service, free.buffer, free.partialByte, free.beat, fun _ => ⟨rfl, rfl⟩⟩ (keeps free) (.inl ⟨rfl, rfl⟩)
  · split
    · next rests =>
      have free := sound.free (unserved (by rw [rests.1]; rfl))
      refine Engine.Free.sound ⟨free.service, free.buffer, free.partialByte, free.beat, fun own => ?_⟩ (keeps free)
        (.inr ⟨rfl, rfl⟩)
      cases rests.2.2.symm.trans own
    · exact sound

theorem Engine.Free.reasked {e : Engine} (free : e.Free) (eligible : Bool) : (e.reasked eligible).Free := by
  unfold Engine.reasked
  split
  · exact ⟨free.service, free.buffer, free.partialByte, free.beat, fun _ => ⟨rfl, rfl⟩⟩
  · split
    · next rests =>
      refine ⟨free.service, free.buffer, free.partialByte, free.beat, fun own => ?_⟩
      cases rests.2.2.symm.trans own
    · exact free

/-- An engine that has been through re-evaluations of work present and nothing else (R92). -/
inductive Engine.Asked (e : Engine) : Engine → Prop
  | same : Asked e e
  | again {f : Engine} (asked : Asked e f) (eligible : Bool) : Asked e (f.reasked eligible)

theorem Engine.Asked.sound {e f : Engine} (asked : e.Asked f) (sound : EngineSound e) : EngineSound f := by
  induction asked with
  | same => exact sound
  | again _ eligible ih => exact ih.reasked eligible

theorem Engine.Asked.free {e f : Engine} (asked : e.Asked f) (free : e.Free) : f.Free := by
  induction asked with
  | same => exact free
  | again _ eligible ih => exact ih.reasked eligible

section
variable {e : Engine} {s : State} {h : HostNo}

theorem Engine.Asked.of_eq (same : s.engine = e) : e.Asked s.engine := by
  rw [same]
  exact .same

theorem Engine.Asked.reevaluate (asked : e.Asked s.engine) : e.Asked s.reevaluate.engine := by
  rw [State.reevaluate_eq]
  exact asked.again _

theorem Engine.Asked.beginDue (asked : e.Asked s.engine) : e.Asked (s.beginDue h).engine := by
  unfold State.beginDue
  split
  · split
    · exact Engine.Asked.reevaluate asked
    · exact asked
  · exact asked

theorem Engine.Asked.deliver (asked : e.Asked s.engine) (bytes : List Byte) : e.Asked (s.deliver h bytes).engine := by
  unfold State.deliver
  dsimp only
  split
  · exact asked
  · exact Engine.Asked.beginDue asked

theorem Engine.Asked.reply (asked : e.Asked s.engine) (r : Reply) : e.Asked (s.reply h r).engine := by
  cases r with
  | answer bytes => exact asked.deliver bytes
  | wait c =>
    change e.Asked (s.waitOn h c).engine
    unfold State.waitOn
    dsimp only
    split
    · exact asked
    · exact Engine.Asked.beginDue asked

theorem Engine.Asked.answerWaiter (asked : e.Asked s.engine) (c : CtxNo) : e.Asked (s.answerWaiter c).engine := by
  unfold State.answerWaiter
  split
  · split
    · split
      · exact asked.deliver _
      · exact asked
    · exact asked
  · exact asked

theorem Engine.Asked.endRun (asked : e.Asked s.engine) (c : CtxNo) (r : RunEnd) : e.Asked (s.endRun c r).engine := by
  unfold State.endRun
  split
  · exact Engine.Asked.answerWaiter (by simpa using asked) c
  · exact asked

end

end Sys2Proof.Machine
end

section
/-! SUPPORT. The engine over the end of a service (R59, R60, R77, R93 to R101, R112, R118): each act leaves it sound, whether a selection
follows or the bus is left. What a selection asks of the tables is that the listed contexts have owners and units left. -/

namespace Sys2Proof.Machine

/-! ## What a selection finds (R48, R59) -/

/-- Every listed context has an owner, and units of its run left (R4, R48). -/
def State.runnable (s : State) : Prop :=
  ∀ h c, c ∈ s.readyList h → (s.ctx c).owner = some h ∧ (s.ctx c).residual ≠ 0

theorem State.runnable.congr {s t : State} (listed : s.runnable) (ctx : ∀ c, t.ctx c = s.ctx c)
    (ready : ∀ h, t.readyList h = s.readyList h) : t.runnable := by
  intro h c on
  rw [ready] at on
  rw [ctx]
  exact listed h c on

section
variable {o : State} {F : HostNo → Prop} {s t : State} {w : Option CtxNo} {c : CtxNo} {h : HostNo} {u v : Service}

theorem Kept.runnable (k : Kept o F s w) : s.runnable := by
  intro h c listed
  have p := k.tabled.placed c fun loose => (k.tabled.loose c loose).offReady h listed
  obtain ⟨ready, owner⟩ := (p.ready h).1 listed
  exact ⟨owner, p.record.counts.waiting (.inl ready)⟩

/-- The service length of a run with units left: at least one unit, and no more than the buffer holds (R69). -/
theorem serviceLength_fits {x : Ctx} (left : x.residual ≠ 0) :
    1 ≤ serviceLength x ∧ serviceLength x * x.unit.bytes ≤ 16 := by
  have units : 0 < x.residual.toNat := Nat.pos_of_ne_zero fun none => left (BitVec.eq_of_toNat_eq none)
  rw [serviceLength_eq]
  cases x.unit with
  | one =>
    simp only [UnitSize.bytes, reduceCtorEq, if_false]
    split <;> omega
  | two =>
    simp only [UnitSize.bytes, if_true]
    split <;> omega

/-- A new service record before its first strobe (R68). -/
theorem newService_sound {x : Ctx} (left : x.residual ≠ 0) (e : Engine) (c : CtxNo) :
    ServiceSound (newService c x) (e.begun c x) := by
  have length := serviceLength_fits left
  have phase : (e.begun c x).state = .reading ↔ x.kind ≠ .fill := by
    change (if x.kind = .fill then EngState.writing else .reading) = .reading ↔ _
    split
    · next fill => simp [fill]
    · next other => simp [other]
  have writes : (e.begun c x).state ≠ .reading → x.kind = .fill := fun other => by simpa [phase] using other
  have notDraining : (e.begun c x).state ≠ .draining ∧ (e.begun c x).state ≠ .pinned := by
    change (if x.kind = .fill then EngState.writing else .reading) ≠ .draining ∧
      (if x.kind = .fill then EngState.writing else .reading) ≠ .pinned
    split <;> decide
  refine ⟨length, nofun, fun _ => ⟨rfl, Nat.zero_le _⟩, fun _ => rfl, phase.1, fun _ _ => length.1, fun _ _ _ => ⟨rfl, length.1⟩,
    fun other check => ?_, fun other move => ?_, fun _ => ⟨length.1, rfl⟩, fun is => absurd is notDraining.2, nofun,
    fun decided => absurd rfl decided, nofun, nofun,
    fun _ _ => ⟨notDraining.1, rfl, rfl, rfl, rfl, rfl, rfl, rfl, rfl⟩⟩
  · cases (writes other).symm.trans check
  · cases (writes other).symm.trans move

/-- A service that has begun with the grant held leaves the engine sound (R59, R68). -/
theorem Engine.Free.begun {e : Engine} (free : e.Free) (own : e.lown = true) (keeps : e.losing = none) {x : Ctx}
    (left : x.residual ≠ 0) (c : CtxNo) : EngineSound (e.begun c x) := by
  have onBus : (e.begun c x).state.onBus = true := by
    change (if x.kind = .fill then EngState.writing else .reading).onBus = true
    split <;> rfl
  have serves := EngState.serving_of_onBus onBus
  refine ⟨serves.symm, nofun, fun _ => own, fun _ => .inl onBus, ⟨fun _ => EngState.ne_idle_of_serving serves, fun _ => ?_⟩,
    fun some => ?_, nofun, fun v service => ?_⟩
  · exact (free.asks own).2
  · change e.losing.isSome = true at some
    rw [keeps] at some
    cases some
  · obtain rfl : newService c x = v := Option.some.inj service
    exact newService_sound left e c

/-! ## A selection, and the bus left (R59, R93 to R95) -/

theorem EngineSound.reevaluate (sound : EngineSound s.engine) : EngineSound s.reevaluate.engine :=
  (Engine.Asked.reevaluate .same).sound sound

theorem State.runnable.selectNow (listed : s.runnable) (free : s.engine.Free) (own : s.engine.lown = true)
    (keeps : s.engine.losing = none) (strobe : Bool) : EngineSound (s.selectNow strobe).engine := by
  unfold State.selectNow
  split
  · next slot c chosen =>
    obtain ⟨h, eligible⟩ := State.choose_eligible chosen
    obtain ⟨owner, left⟩ := listed h c (State.mem_eligible eligible).2
    have engine := State.engine_beginService owner slot
    have begun : EngineSound (s.beginService slot c).engine := by
      rw [engine]
      exact free.begun own keeps left c
    cases strobe with
    | false => exact begun.reevaluate
    | true =>
      have service : (s.beginService slot c).engine.service = some (newService c (s.ctx c)) := by rw [engine]; rfl
      have onBus : (s.beginService slot c).engine.state.onBus = true := by
        rw [engine]
        change (if (s.ctx c).kind = .fill then EngState.writing else .reading).onBus = true
        split <;> rfl
      exact ((begun.bus service onBus).issueBeat service).reevaluate
  · refine EngineSound.reevaluate (s := s.setEngine _) (Engine.Free.sound ?_ keeps (.inr ⟨rfl, rfl⟩))
    exact ⟨free.service, free.buffer, free.partialByte, rfl, nofun⟩

theorem State.runnable.select (listed : s.runnable) (free : s.engine.Free) (own : s.engine.lown = true)
    (keeps : s.engine.losing = none) : EngineSound s.select.engine := by
  have counted : s.countChoice.runnable := listed
  rcases s.select_cases with waits | ⟨strobe, now⟩
  · rw [waits]
    exact EngineSound.reevaluate (s := s.countChoice) (free.sound keeps (.inl (free.asks own)))
  · rw [now]
    exact counted.selectNow free own keeps strobe

/-- The bus is left with no service in flight; a grant asserted again meanwhile is taken (log 8). -/
theorem State.runnable.leaveBus (listed : s.runnable) (free : s.engine.Free) : EngineSound s.leaveBus.engine := by
  have left : Engine.Free { s.engine with state := .asking, beat := none, lown := false, lreq := true, losing := none } :=
    ⟨free.service, free.buffer, free.partialByte, rfl, nofun⟩
  obtain ⟨eligible, busLeft⟩ : ∃ eligible, s.busLeft.engine = Engine.reasked { s.engine with
      state := .asking, beat := none, lown := false, lreq := true, losing := none } eligible :=
    ⟨_, by rw [State.busLeft, State.reevaluate_eq]; rfl⟩
  rw [State.leaveBus_eq]
  split
  · next regranted =>
    have asks := (Bool.and_eq_true_iff.1 regranted).2
    have asking := State.busLeft_asking asks
    have off : s.busLeft.engine.Free := by rw [busLeft]; exact left.reasked _
    have keeps : s.busLeft.engine.losing = none := by rw [State.busLeft, State.engine_reevaluate]; rfl
    have same : s.busLeft.runnable := listed.congr (by simp [State.busLeft]) (by simp [State.busLeft])
    rw [State.takeGrant_asking asking]
    refine State.runnable.select (s := s.busLeft.setEngine _) same ?_ rfl keeps
    exact ⟨off.service, off.buffer, off.partialByte, off.beat, fun _ => ⟨asking, asks⟩⟩
  · rw [busLeft]
    exact (left.sound rfl (.inl ⟨rfl, rfl⟩)).reasked _

theorem State.runnable.afterService (listed : s.runnable) (free : s.engine.Free) : EngineSound s.afterService.engine := by
  rw [State.afterService_eq]
  split
  · next holds =>
    obtain ⟨own, keeps⟩ := s.holdsGrant_iff.1 holds
    exact listed.select free own keeps
  · exact listed.leaveBus free

/-! ## The end of a service (R60, R77, R112) -/

/-- The engine once its service is removed. -/
theorem State.free_withoutService (request : s.engine.lreq = true) : s.withoutService.engine.Free :=
  ⟨rfl, rfl, rfl, rfl, fun _ => ⟨rfl, request⟩⟩

theorem State.engine_pointerMoved (s : State) : s.pointerMoved.engine = s.engine := by rw [State.pointerMoved_frame]

theorem Kept.pointerMoved (k : Kept o F s w) : Kept o F s.pointerMoved w :=
  k.aside (.pointerMoved _) (by rw [State.engine_pointerMoved])

/-- The context whose service ended, with or without a run end, leaves the engine sound. -/
theorem Kept.endService_sound (k : Kept o F s.withoutService (some v.ctx)) (service : s.engine.service = some v)
    (request : s.engine.lreq = true) (resumable : v.endDecided = none → s.abortSet v = false → Resumable (s.ctx v.ctx)) :
    EngineSound s.endService.engine := by
  have moved := k.pointerMoved
  have free : s.withoutService.pointerMoved.engine.Free := by
    rw [State.engine_pointerMoved]
    exact State.free_withoutService request
  have same : s.withoutService.pointerMoved.ctx v.ctx = s.ctx v.ctx := by rw [State.pointerMoved_frame]; rfl
  cases outcome : v.runEnd (s.abortSet v) with
  | none =>
    obtain ⟨undecided, unaborted⟩ := Service.undecided_of_runEnd_none outcome
    rw [State.endService_completed service outcome]
    have placed := moved.placeCompleted (same ▸ resumable undecided unaborted)
    refine State.runnable.afterService (placed.runnable.congr (by simp) (by simp)) (Engine.Asked.free ?_ free)
    exact Engine.Asked.answerWaiter (.of_eq (by simp)) v.ctx
  | some e =>
    have ended := moved.endRun e
    have off := (Engine.Asked.endRun (s := s.withoutService.pointerMoved) .same v.ctx e).free free
    rw [State.endService_ended service outcome]
    dsimp only
    split
    · exact ended.runnable.afterService off
    · split
      · have selected := moved.countChoice.runnable.afterService free
        exact EngineSound.reevaluate ((Engine.Asked.endRun .same v.ctx e).sound selected)
      · exact ended.countChoice.runnable.afterService off

theorem Busy.endService_sound (b : Busy o F s) (service : s.engine.service = some v) (request : s.engine.lreq = true) :
    EngineSound s.endService.engine :=
  (b.drop service).endService_sound service request fun undecided unaborted =>
    ⟨b.unended service, unaborted, (b.kept.tabled.served v service).2 undecided⟩

/-! ## The cut (R118) -/

theorem Busy.cutService_sound (b : Busy o F s) (service : s.engine.service = some v) (owner : (s.ctx v.ctx).owner = some h)
    (request : s.engine.lreq = true) : EngineSound (s.cutService h).engine := by
  have loose : Kept o F s.dropService.dropMark (some v.ctx) := Kept.aside (b.drop service) (.setMark _ _) rfl
  have listed : (s.dropService.dropMark.freeCtx h v.ctx).runnable := (loose.freeLoose owner).runnable
  have free : (s.dropService.dropMark.freeCtx h v.ctx).engine.Free := by
    rw [State.engine_freeCtx]
    exact State.free_withoutService request
  simp only [State.cutService, service]
  split
  · exact State.runnable.afterService (s := State.setWd _ _ _) listed free
  · exact listed.afterService free

/-! ## The loss of the grant (R95 to R101) -/

theorem Busy.pinnedAbort_sound (b : Busy o F s) (service : s.engine.service = some v) (request : s.engine.lreq = true) :
    EngineSound s.pinnedAbort.engine := by
  rw [State.pinnedAbort_eq service]
  exact Busy.endService_sound (b.serve service rfl ⟨rfl, id⟩) rfl request

/-- A grant taken by a PINNED service begins the write-out, on the bus (R100). -/
theorem EngineSound.takeGrant_pinned (sound : EngineSound s.engine) (service : s.engine.service = some v)
    (pinned : s.engine.state = .pinned) : EngineSound s.takeGrant.engine := by
  have fits := (sound.service v service).fits
  have off : s.engine.state ≠ .reading := by simp [pinned]
  have whole : s.engine.partialByte = none := Option.not_isSome_iff_eq_none.1 fun some => off (fits.partialByte some).1
  have phase : (if v.pinEnding = true then EngState.draining else .writing) ≠ .reading ∧
      (if v.pinEnding = true then EngState.draining else .writing) ≠ .pinned ∧
      (if v.pinEnding = true then EngState.draining else .writing).onBus = true := by split <;> decide
  rw [State.takeGrant_pinned pinned service]
  refine OnBus.issueBeat (s := s.setEngine _) (v := v) ⟨phase.2.2, rfl, sound.requests service, { fits with
    reading := fun reading => absurd reading phase.1
    reads := fun reading => absurd reading phase.1
    checks := fun reading => absurd reading phase.1
    writing := fun _ => fits.writing off
    moves := fun _ => fits.moves off
    pinned := fun still => absurd still phase.2.1
    partialByte := fun some => by rw [State.engine_setEngine, whole] at some; cases some
    decided := fun decided => ?_ }⟩ service
  rcases fits.decided decided with ⟨reading, -⟩ | draining | ⟨-, ending⟩
  · exact absurd reading off
  · cases draining.symm.trans pinned
  · exact .inr (.inl (if_pos ending))

/-- What may follow a pin leaves the engine sound. -/
theorem Busy.afterPin_sound (b : Busy o F s) (service : s.engine.service = some u) (agrees : Agrees v u)
    (sound : EngineSound s.engine) (pinned : s.engine.state = .pinned) (g : GrantLoss) :
    EngineSound (s.afterPin v g).engine := by
  have request := sound.requests service
  unfold State.afterPin
  split
  · exact sound
  · next h owner =>
    split
    · exact b.cutService_sound service (by rw [agrees.ctx]; exact owner) request
    · split
      · split
        · exact b.pinnedAbort_sound service request
        · split
          · exact EngineSound.takeGrant_pinned (s := s.countChoice) sound service pinned
          · exact b.countChoice.pinnedAbort_sound service request
      · split
        · exact sound.takeGrant_pinned service pinned
        · exact sound

/-- A MOVE with units buffered, and no unit half read, pins with the whole of its service (R99). -/
theorem OnBus.pin (bus : OnBus s.engine v) (holds : s.engine.buffer ≠ []) (whole : s.engine.partialByte = none) :
    EngineSound (s.pin v).engine := by
  have fits := bus.fits
  have move : v.kind = .move := Classical.byContradiction fun other => holds (fits.unbuffered other)
  refine ⟨rfl, nofun, nofun, nofun, ⟨fun _ => nofun, fun _ => rfl⟩, nofun, nofun, fun x inFlight => ?_⟩
  obtain rfl := Option.some.inj inFlight
  exact { fits with
    reading := nofun
    reads := nofun
    checks := nofun
    writing := fun _ check => by cases move.symm.trans check
    moves := fun _ _ => holds
    pinned := fun _ => move
    partialByte := fun some => by cases whole.symm.trans (Option.eq_some_of_isSome some)
    decided := fun decided => .inr (.inr ⟨rfl, by
      change s.isEnding v = true
      rw [State.isEnding, Option.isSome_iff_ne_none.2 decided]
      rfl⟩)
    direction := nofun
    fresh := nofun }

theorem Kept.yieldService_sound (k : Kept o F s.withoutService (some v.ctx)) (r : Resumable (s.ctx v.ctx))
    (request : s.engine.lreq = true) : EngineSound (s.yieldService v).engine := by
  have loose : Kept o F s.dropService.dropMark (some v.ctx) := k.aside (.setMark _ _) rfl
  have listed := (loose.placeYielded r).runnable
  rw [State.yieldService_eq]
  refine State.runnable.leaveBus (listed.congr (fun d => ?_) fun g => ?_) (Engine.Asked.free ?_ (s.free_withoutService request))
  · rw [State.ctx_answerWaiter, State.yielded, State.rearmed_frame]
    rfl
  · rw [State.readyList_answerWaiter, State.yielded, State.rearmed_frame]
    rfl
  · exact Engine.Asked.answerWaiter (.of_eq (State.engine_yielded s v)) v.ctx

/-- A unit half read is discarded, and the engine stays on the bus (R108, R113, R115). -/
theorem OnBus.discardPartial (bus : OnBus s.engine v) (service : s.engine.service = some v) :
    ∃ x, s.discardPartial.engine.service = some x ∧ OnBus s.discardPartial.engine x ∧
      s.discardPartial.engine.partialByte = none := by
  have fits := bus.fits
  rw [State.discardPartial_eq service]
  by_cases half : s.engine.state = .reading ∧ v.half = true
  · have record : s.wholeUnits v = { v with half := false, termMark := false, dataLost := _ } := if_pos half
    have left : s.partialLeft v = none := if_pos half
    rw [State.discarded, record, left]
    refine ⟨_, rfl, ⟨bus.onBus, bus.own, bus.request, { fits with partialByte := nofun, decided := fun decided => ?_, half := nofun }⟩,
      rfl⟩
    exact (fits.decided decided).imp_left fun ⟨reading, check, _⟩ => ⟨reading, check, rfl⟩
  · have record : s.wholeUnits v = v := if_neg half
    have left : s.partialLeft v = s.engine.partialByte := if_neg half
    rw [State.discarded, record, left]
    exact ⟨v, rfl, ⟨bus.onBus, bus.own, bus.request, { fits with }⟩,
      Option.not_isSome_iff_eq_none.1 fun some => half (fits.partialByte some)⟩

/-- The settlement of a service at the loss of the grant leaves the engine sound (R96). -/
theorem Busy.settleLoss_sound (b : Busy o F s) (service : s.engine.service = some v) (bus : OnBus s.engine v) :
    EngineSound s.settleLoss.engine := by
  have d := b.discardPartial
  obtain ⟨x, inFlight, left, whole⟩ := bus.discardPartial service
  rw [State.settleLoss_eq]
  generalize s.discardPartial = t at d inFlight left whole ⊢
  have settled := d.cutSettled inFlight
  have request : (t.cutSettled x).engine.lreq = true := by rw [State.engine_cutSettled]; exact left.request
  have resumable : x.endDecided = none → (t.ctx x.ctx).abortPending = false → Resumable ((t.cutSettled x).ctx x.ctx) :=
    fun undecided unaborted => by
      rw [State.ctx_cutSettled]
      exact ⟨d.unended inFlight, unaborted, (d.kept.tabled.served x inFlight).2 undecided⟩
  rw [inFlight]
  dsimp only
  split
  · next pins =>
    have holds : t.engine.buffer ≠ [] := ((t.pins_iff x).1 pins).2.2
    have pinned : Busy o F (t.pin x) := d.serve inFlight rfl ⟨rfl, id⟩
    exact pinned.afterPin_sound rfl ⟨rfl, id⟩ (left.pin holds whole) rfl _
  · split
    · refine settled.endService_sound (by rw [State.engine_cutSettled]; exact inFlight) request fun undecided unaborted => ?_
      exact resumable undecided (by simpa [State.abortSet] using unaborted)
    · next goes =>
      simp only [State.isEnding, State.abortSet, Bool.or_eq_true, not_or, Bool.not_eq_true] at goes
      obtain ⟨⟨⟨undecided, -⟩, unaborted⟩, -⟩ := goes
      exact settled.yieldService_sound (resumable (by simpa using undecided) unaborted) request

theorem Busy.proceed_sound (b : Busy o F s) (service : s.engine.service = some v) (bus : OnBus s.engine v) :
    EngineSound s.proceed.engine := by
  unfold State.proceed
  split
  · exact b.settleLoss_sound service bus
  · exact bus.issueBeat service

/-- The beat that a cut waits for has ended (R118). -/
theorem Busy.cutAfterBeat_sound (b : Busy o F s) (service : s.engine.service = some v) (bus : OnBus s.engine v) :
    EngineSound (s.cutAfterBeat v).engine := by
  obtain ⟨h, owner, -⟩ := b.owner service
  have cut := b.cutService_sound service owner bus.request
  unfold State.cutAfterBeat
  rw [owner]
  dsimp only
  split
  · split
    · exact cut
    · exact b.settleLoss_sound service bus
  · exact cut

end

end Sys2Proof.Machine
end

section
/-! SUPPORT. The engine over the end of a beat (R70 to R75, R79 to R88, R103 to R115): a beat read or written, a beat that failed, and an
abort that reaches the service each leave it sound. -/

namespace Sys2Proof.Machine

/-! ## A MOVE that writes out -/

/-- A MOVE past READING fits what is buffered of it; an end decided for it is that of a drain (R71, R131). -/
theorem Fits.writesOut {v : Service} {e : Engine} (move : v.kind = .move) (length : 1 ≤ v.length ∧ v.length * v.unit.bytes ≤ 16)
    (units : ∀ b ∈ e.buffer, b.bytes.length = v.unit.bytes)
    (buffered : v.unitsCommitted + e.buffer.length = v.unitsRead ∧ v.unitsRead ≤ v.length) (holds : e.buffer ≠ [])
    (past : e.state ≠ .reading) (whole : e.partialByte = none) (decided : v.endDecided ≠ none → e.state = .draining)
    (half : v.half = true → v.unit = .two) : Fits v e where
  length := length
  units := units
  buffered _ := buffered
  unbuffered other := absurd move other
  reading reading := absurd reading past
  reads reading := absurd reading past
  checks reading := absurd reading past
  writing _ check := by cases move.symm.trans check
  moves _ _ := holds
  fills fill := by cases move.symm.trans fill
  pinned _ := move
  partialByte some := by rw [whole] at some; cases some
  decided is := .inr (.inl (decided is))
  half := half

/-- Past READING no unit is half read (R70). -/
theorem Fits.whole {v : Service} {e : Engine} (fits : Fits v e) (past : e.state ≠ .reading) : e.partialByte = none :=
  Option.not_isSome_iff_eq_none.1 fun some => past (fits.partialByte some).1

/-- On the bus an end is decided for a CHECK in READING, or in DRAINING (R87, R131). -/
theorem OnBus.undecided {e : Engine} {v : Service} (bus : OnBus e v) (draining : e.state ≠ .draining)
    (goesOn : e.state = .reading → v.kind ≠ .check) : v.endDecided = none := by
  refine Classical.byContradiction fun decided => ?_
  rcases bus.fits.decided decided with ⟨reading, check, -⟩ | drains | ⟨pinned, -⟩
  · exact goesOn reading check
  · exact draining drains
  · have onBus := bus.onBus
    rw [pinned] at onBus
    cases onBus

section
variable {o : State} {F : HostNo → Prop} {s t : State} {u v : Service} {beat : Beat}

/-! ## Read beats (R70, R71, R73) -/

theorem Busy.stopReading_sound (b : Busy o F s) (service : s.engine.service = some v) (bus : OnBus s.engine v)
    (whole : s.engine.partialByte = none) : EngineSound s.stopReading.engine := by
  rw [State.stopReading_eq service]
  split
  · next drains =>
    obtain ⟨move, holds⟩ := drains
    have fits := bus.fits
    exact Busy.proceed_sound (b.serve service rfl ⟨rfl, id⟩) rfl ⟨rfl, bus.own, bus.request,
      .writesOut move fits.length fits.units (fits.buffered move) holds nofun whole (fun _ => rfl) fits.half⟩
  · exact b.endService_sound service bus.request

/-- Reading that stops with a unit half read discards it first (R108, R113). -/
theorem Busy.discardPartial_stopReading_sound (b : Busy o F s) (service : s.engine.service = some v) (bus : OnBus s.engine v) :
    EngineSound s.discardPartial.stopReading.engine := by
  obtain ⟨x, inFlight, left, whole⟩ := bus.discardPartial service
  exact b.discardPartial.stopReading_sound inFlight left whole

theorem Busy.readHalf_sound (b : Busy o F s) (service : s.engine.service = some u) (agrees : Agrees u v) (bus : OnBus s.engine v)
    (reading : s.engine.state = .reading) (two : v.unit = .two) (undecided : v.endDecided = none) (byte : Byte) :
    EngineSound (s.readHalf v byte).engine := by
  have half : Busy o F (s.halfRead v byte) := b.serve service rfl (agrees.trans ⟨rfl, id⟩)
  have left : OnBus (s.halfRead v byte).engine { v with half := true } :=
    ⟨bus.onBus, bus.own, bus.request, { bus.fits with
      partialByte := fun _ => ⟨reading, rfl⟩, decided := fun decided => absurd undecided decided, half := fun _ => two }⟩
  cases losing : s.engine.losing with
  | some g =>
    rw [State.readHalf_losing losing]
    split
    · exact left.issueBeat rfl
    · exact half.settleLoss_sound rfl left
  | none =>
    cases abort : (s.ctx v.ctx).abortPending with
    | true =>
      rw [State.readHalf_aborted losing abort]
      exact half.discardPartial_stopReading_sound rfl left
    | false =>
      rw [State.readHalf_goesOn losing abort]
      exact left.issueBeat rfl

theorem State.onBus_afterRead (s : State) (v : Service) : (s.afterRead v).onBus = true := by
  unfold State.afterRead
  split
  · rfl
  · split
    · rfl
    · split <;> rfl

/-- Reading goes on while units of the service are left to read (R71). -/
theorem State.unitsRead_of_afterRead (reads : s.afterRead v = .reading) : v.unitsRead + 1 < v.length := by
  unfold State.afterRead at reads
  split at reads
  · cases reads
  · split at reads
    · cases reads
    · omega

/-- A unit read by a MOVE joins the buffer, which has room for the units of the service (R69, R71). -/
theorem Busy.readMove_sound (b : Busy o F s) (service : s.engine.service = some u) (agrees : Agrees u v) (bus : OnBus s.engine v)
    (reading : s.engine.state = .reading) (move : v.kind = .move) {bytes : List Byte} (size : bytes.length = v.unit.bytes) :
    EngineSound (s.readMove v bytes).engine := by
  have fits := bus.fits
  have undecided : v.endDecided = none := bus.undecided (by simp [reading]) fun _ => by simp [move]
  have room := fits.reads reading move
  have units : ∀ x ∈ s.engine.buffer ++ [({ bytes := bytes, marked := v.termMark } : BufUnit)], x.bytes.length = v.unit.bytes := by
    simpa [or_imp, forall_and, size] using fits.units
  have buffered : v.unitsCommitted + (s.engine.buffer ++ [({ bytes := bytes, marked := v.termMark } : BufUnit)]).length =
      v.unitsRead + 1 ∧ v.unitsRead + 1 ≤ v.length := by
    obtain ⟨count, -⟩ := fits.buffered move
    rw [List.length_append, List.length_singleton]
    omega
  rw [State.readMove_eq reading]
  refine Busy.proceed_sound (b.serve service rfl (agrees.trans ⟨rfl, id⟩)) rfl ⟨s.onBus_afterRead v, bus.own, bus.request, ?_⟩
  by_cases reads : s.afterRead v = .reading
  · exact { fits with
      units := units
      buffered := fun _ => buffered
      unbuffered := fun other => absurd move other
      reading := fun _ => by simp [move]
      reads := fun _ _ => State.unitsRead_of_afterRead reads
      checks := fun _ check => by cases move.symm.trans check
      writing := fun past => absurd reads past
      moves := fun past => absurd reads past
      pinned := fun _ => move
      partialByte := nofun
      decided := fun decided => absurd undecided decided
      half := nofun }
  · exact .writesOut move fits.length units buffered (by simp) reads rfl (fun decided => absurd undecided decided) nofun

theorem Busy.readCheck_sound (b : Busy o F s) (service : s.engine.service = some u) (agrees : Agrees u v) (bus : OnBus s.engine v)
    (reading : s.engine.state = .reading) (check : v.kind = .check) (undecided : v.endDecided = none)
    (left : (s.ctx v.ctx).residual ≠ 0) (bytes : List Byte) : EngineSound (s.readCheck v bytes).engine := by
  have fits := bus.fits
  obtain ⟨count, -⟩ := fits.checks reading check undecided
  have committed : Busy o F (s.unitChecked v (s.checkTest v bytes)) := b.commit service agrees left rfl ⟨rfl, id⟩ runEndTest_none
  have ends := committed.endService_sound rfl bus.request
  have goesOn : (s.checkTest v bytes = none → v.unitsCommitted + 1 < v.length) →
      EngineSound (s.unitChecked v (s.checkTest v bytes)).proceed.engine := fun room =>
    committed.proceed_sound rfl ⟨bus.onBus, bus.own, bus.request, { fits with
      buffered := fun move => by cases check.symm.trans move
      reads := fun _ move => by cases check.symm.trans move
      checks := fun _ _ none => ⟨congrArg (· + 1) count, room none⟩
      fills := fun fill => by cases check.symm.trans fill
      partialByte := nofun
      decided := fun _ => .inl ⟨reading, check, rfl⟩
      half := nofun }⟩
  rw [State.readCheck_eq]
  split
  · next decided =>
    split
    · exact ends
    · exact goesOn fun none => absurd none decided
  · split
    · exact ends
    · next more => exact goesOn fun _ => Nat.lt_of_not_le fun last => more (.inl last)

/-- The data of a beat after the decided end of a CHECK is discarded (R87). -/
theorem Busy.readDiscarded_sound (b : Busy o F s) (service : s.engine.service = some u) (agrees : Agrees u v)
    (bus : OnBus s.engine v) (reading : s.engine.state = .reading) (decided : v.endDecided ≠ none)
    (first : ¬v.lastByte beat → v.unit = .two) : EngineSound (s.readDiscarded v (decide (v.lastByte beat))).engine := by
  have fits := bus.fits
  have whole : s.engine.partialByte = none := by
    rcases fits.decided decided with ⟨-, -, whole⟩ | draining | ⟨pinned, -⟩
    · exact whole
    · cases reading.symm.trans draining
    · cases reading.symm.trans pinned
  have empty : s.engine.partialByte.isSome = true → False := fun some => by rw [whole] at some; cases some
  have same : Agrees v (v.discarding (v.lastByte beat)) := by
    unfold Service.discarding
    split
    · exact ⟨rfl, id⟩
    · exact ⟨rfl, id⟩
  have discarded : Busy o F (s.setService (v.discarding (v.lastByte beat))) := b.serve service rfl (agrees.trans same)
  have left : Fits (v.discarding (v.lastByte beat)) (s.setService (v.discarding (v.lastByte beat))).engine := by
    unfold Service.discarding
    split
    · exact { fits with partialByte := fun some => (empty some).elim, half := nofun }
    · next another => exact { fits with partialByte := fun some => (empty some).elim, half := fun _ => first another }
  rw [State.readDiscarded_eq]
  split
  · exact discarded.endService_sound rfl bus.request
  · exact discarded.proceed_sound rfl ⟨bus.onBus, bus.own, bus.request, left⟩

/-- A unit read has the bytes of a unit (R70, R80). -/
theorem State.length_unitRead (s : State) (word : beat.byte = false → v.unit = .two ∧ v.half = false)
    (half : v.half = true → v.unit = .two) (last : v.lastByte beat) (w : Width) (ld : Half) :
    (s.unitRead v beat w ld).length = v.unit.bytes := by
  unfold State.unitRead
  split
  · next whole => rw [(word whole).1]; rfl
  · next byte =>
    split
    · next second => rw [half second]; rfl
    · next first =>
      have one : v.unit = .one := last.resolve_right fun other => other.elim byte first
      rw [one]
      rfl

/-- A unit of which a beat is not the last byte has two (R70). -/
theorem Service.two_of_first (first : ¬v.lastByte beat) : v.unit = .two := by
  cases unit : v.unit with
  | one => exact absurd (.inl unit) first
  | two => rfl

/-- A read beat has completed: its data is discarded, is the first byte of a unit, or ends one. -/
theorem Busy.readDone_sound (b : Busy o F s) (service : s.engine.service = some u) (agrees : Agrees u v) (bus : OnBus s.engine v)
    (reading : s.engine.state = .reading) (word : beat.byte = false → v.unit = .two ∧ v.half = false) (w : Width) (ld : Half) :
    EngineSound (s.readDone v beat w ld).engine := by
  by_cases undecided : v.endDecided = none
  · by_cases last : v.lastByte beat
    · rw [State.readDone_unit undecided last]
      split
      · next check =>
        have left := (b.kept.tabled.served u service).2 (agrees.undecided undecided)
        rw [← agrees.ctx] at left
        exact b.readCheck_sound service agrees bus reading check undecided left _
      · next other =>
        have move : v.kind = .move := by
          cases kind : v.kind with
          | move => rfl
          | fill => exact absurd kind (bus.fits.reading reading)
          | check => exact absurd kind other
        exact b.readMove_sound service agrees bus reading move (s.length_unitRead word bus.fits.half last w ld)
    · rw [State.readDone_first undecided last]
      exact b.readHalf_sound service agrees bus reading (Service.two_of_first last) undecided _
  · have check : v.kind = .check := Classical.byContradiction fun other =>
      undecided (bus.undecided (by simp [reading]) fun _ => other)
    rw [State.readDone_decided check undecided]
    exact b.readDiscarded_sound service agrees bus reading undecided Service.two_of_first

/-! ## Write beats (R71, R72) -/

theorem Busy.writeHalf_sound (b : Busy o F s) (service : s.engine.service = some u) (agrees : Agrees u v) (bus : OnBus s.engine v)
    (writes : s.engine.state ≠ .reading) (two : v.unit = .two) : EngineSound (s.writeHalf v).engine := by
  rw [State.writeHalf_eq]
  exact Busy.proceed_sound (b.serve service rfl (agrees.trans ⟨rfl, id⟩)) rfl ⟨bus.onBus, bus.own, bus.request, { bus.fits with
    partialByte := fun some => absurd (bus.fits.partialByte some).1 writes
    half := fun _ => two }⟩

/-- The engine with a unit of the service `v` written, and the run end `found` at its commit (R74). -/
def Engine.unitWritten (e : Engine) (v : Service) (found : Option Cause) : Engine :=
  { e with buffer := e.buffer.tail, service := some (v.unitWritten found) }

section
variable {e : Engine} {found : Option Cause}

/-- A MOVE with units buffered after the commit goes on, in DRAINING where an end is decided (R131). -/
theorem OnBus.moveWritten (bus : OnBus e v) (writes : e.state ≠ .reading) (move : v.kind = .move) (holds : e.buffer.tail ≠ [])
    {state : EngState} (onBus : state.onBus = true) (past : state ≠ .reading)
    (ending : found.or v.endDecided ≠ none → state = .draining) :
    OnBus { e.unitWritten v found with state := state } (v.unitWritten found) := by
  have fits := bus.fits
  have some := List.length_pos_of_ne_nil (fits.moves writes move)
  obtain ⟨count, within⟩ := fits.buffered move
  refine ⟨onBus, bus.own, bus.request, .writesOut move fits.length (fun x on => fits.units x (List.mem_of_mem_tail on)) ?_ holds
    past (fits.whole writes) (fun decided => ?_) nofun⟩
  · change v.unitsCommitted + 1 + e.buffer.tail.length = v.unitsRead ∧ v.unitsRead ≤ v.length
    rw [List.length_tail]
    omega
  · rw [v.endDecided_unitWritten found] at decided
    exact ending decided

theorem OnBus.fillWritten (bus : OnBus e v) (writes : e.state ≠ .reading) (fill : v.kind = .fill)
    (room : v.unitsCommitted + 1 < v.length) : OnBus (e.unitWritten v none) (v.unitWritten none) := by
  have fits := bus.fits
  have nothing : e.buffer = [] := fits.unbuffered (by simp [fill])
  have undecided : v.endDecided = none := (fits.fills fill).2
  exact ⟨bus.onBus, bus.own, bus.request, { fits with
    units := fun x on => fits.units x (List.mem_of_mem_tail on)
    buffered := fun move => by cases fill.symm.trans move
    unbuffered := fun _ => by change e.buffer.tail = []; rw [nothing]; rfl
    checks := fun reading => absurd reading writes
    moves := fun _ move => by cases fill.symm.trans move
    fills := fun _ => ⟨room, undecided⟩
    partialByte := fun some => absurd (fits.partialByte some).1 writes
    decided := fun decided => absurd undecided decided
    half := nofun }⟩

end

/-- With a run end found the service ends, or a MOVE with units buffered drains them (R131). -/
theorem State.afterUnit_some (s t : State) (v : Service) (k : Cause) :
    s.afterUnit t v (some k) = t.endService ∨
      v.kind = .move ∧ s.engine.buffer.tail ≠ [] ∧ s.afterUnit t v (some k) = (t.setEngState .draining).proceed := by
  unfold State.afterUnit
  cases v.kind with
  | move =>
    cases k with
    | count => exact .inl rfl
    | _ =>
      dsimp only
      split
      · exact .inl rfl
      · next drains => exact .inr ⟨rfl, fun empty => drains (by simp [empty]), rfl⟩
  | fill => exact .inl (if_pos (by simp))
  | check => exact .inl (if_pos (by simp))

/-- What follows the commit of a unit written: the service ends, a MOVE goes on in its phase or in DRAINING, or a FILL goes on. -/
theorem Busy.afterUnit_sound {found : Option Cause} (b : Busy o F t) (written : t.engine = s.engine.unitWritten v found)
    (bus : OnBus s.engine v) (writes : s.engine.state ≠ .reading) : EngineSound (s.afterUnit t v found).engine := by
  have service : t.engine.service = some (v.unitWritten found) := by rw [written]; rfl
  have ends := b.endService_sound service (by rw [written]; exact bus.request)
  have drains : v.kind = .move → s.engine.buffer.tail ≠ [] → EngineSound (t.setEngState .draining).proceed.engine := by
    intro move holds
    refine (b.setEngState .draining).proceed_sound service ?_
    rw [State.setEngState, State.engine_setEngine, written]
    exact bus.moveWritten writes move holds rfl nofun fun _ => rfl
  cases found with
  | some k =>
    rcases s.afterUnit_some t v k with ended | ⟨move, holds, drained⟩
    · rw [ended]
      exact ends
    · rw [drained]
      exact drains move holds
  | none =>
    cases kind : v.kind with
    | check => exact absurd kind (bus.fits.writing writes)
    | move =>
      by_cases last : s.engine.buffer.tail = []
      · rw [State.afterUnit_last kind last]
        exact ends
      · rw [State.afterUnit_move kind last]
        split
        · split
          · exact drains kind last
          · exact ends
        · refine b.proceed_sound service ?_
          rw [written]
          refine bus.moveWritten writes kind last bus.onBus writes fun decided => ?_
          exact Classical.byContradiction fun writing => decided (bus.undecided writing fun reading => absurd reading writes)
    | fill =>
      rw [State.afterUnit_fill kind]
      split
      · exact ends
      · next more =>
        refine b.proceed_sound service ?_
        rw [written]
        exact bus.fillWritten writes kind (Nat.lt_of_not_le fun last => more (.inl last))

/-- A unit of a MOVE or a FILL written is committed, and its run-end tests are made (R74, R75). -/
theorem Busy.writeUnitDone_sound (b : Busy o F s) (service : s.engine.service = some u) (agrees : Agrees u v)
    (bus : OnBus s.engine v) (writes : s.engine.state ≠ .reading) (left : (s.ctx v.ctx).residual ≠ 0) :
    EngineSound (s.writeUnitDone v).engine := by
  rw [State.writeUnitDone_test]
  refine Busy.afterUnit_sound (b.commit service agrees left rfl ⟨rfl, id⟩ fun undecided => ?_) rfl bus writes
  rw [v.endDecided_unitWritten] at undecided
  exact runEndTest_none (Option.or_eq_none_iff.1 undecided).1

theorem Busy.writeDone_sound (b : Busy o F s) (service : s.engine.service = some u) (agrees : Agrees u v) (bus : OnBus s.engine v)
    (writes : s.engine.state ≠ .reading) (left : (s.ctx v.ctx).residual ≠ 0) : EngineSound (s.writeDone v beat).engine := by
  rw [State.writeDone_eq]
  split
  · exact b.writeUnitDone_sound service agrees bus writes left
  · next first => exact b.writeHalf_sound service agrees bus writes (Service.two_of_first first)

/-! ## Failed beats (R103 to R111) -/

theorem Fits.record {e : Engine} (fits : Fits v e) (k : Cause) (p : Phase) (a : Addr) : Fits (v.record k p a) e := by
  unfold Service.record
  split
  · exact fits
  · exact { fits with }

theorem Busy.failBeat_sound (b : Busy o F s) (sound : EngineSound s.engine) (k : Cause) : EngineSound (s.failBeat k).engine := by
  unfold State.failBeat
  split
  · next beat v inFlight service =>
    have bus := sound.bus service (sound.beat (by rw [inFlight]; rfl))
    have stopped : Fits { v with burst := 0 } { s.engine with beat := none } := { bus.fits with }
    have recorded := fun p => ((⟨rfl, id⟩ : Agrees v { v with burst := 0 }).trans
      (Service.record_agrees { v with burst := 0 } k p beat.addr))
    dsimp only
    split
    · exact Busy.cutAfterBeat_sound (b.serve service rfl ⟨rfl, id⟩) rfl ⟨bus.onBus, bus.own, bus.request, { stopped with }⟩
    · split
      · split
        · exact Busy.endService_sound (b.serve service rfl ⟨rfl, id⟩) rfl bus.request
        · exact Busy.discardPartial_stopReading_sound (b.serve service rfl (recorded .read)) rfl
            ⟨bus.onBus, bus.own, bus.request, { stopped.record k .read beat.addr with }⟩
      · exact Busy.endService_sound (b.serve service rfl ((recorded .write).trans ⟨rfl, id⟩)) rfl bus.request
      · exact Busy.endService_sound (b.serve service rfl ((recorded .write).trans ⟨rfl, id⟩)) rfl bus.request
  · exact sound

/-! ## Answers (R79 to R88, R106) -/

/-- The note of an answer leaves the engine on the bus. -/
theorem OnBus.noteAnswer (bus : OnBus s.engine v) (beat : Beat) (a : Answer) :
    OnBus (s.noteAnswer v beat a).engine (v.cutBurst (a.single && beat.inBurst)) := by
  rw [State.noteAnswer_eq]
  exact ⟨bus.onBus, bus.own, bus.request, { bus.fits with }⟩

/-- What follows the note of an answer: the cut that waits for the beat, or its data. -/
theorem Busy.answered_sound (b : Busy o F s) (service : s.engine.service = some v) (bus : OnBus s.engine v)
    (directs : v.directs s.engine.state beat) (writes : beat.write = true → (s.ctx v.ctx).residual ≠ 0) (w : Width) (ld : Half)
    (marks : Bool) : EngineSound (s.answered v beat w ld marks).engine := by
  obtain ⟨direction, word⟩ := directs
  have agrees : Agrees v { v with termMark := v.termMark || marks } := ⟨rfl, id⟩
  have marked : OnBus s.engine { v with termMark := v.termMark || marks } :=
    ⟨bus.onBus, bus.own, bus.request, { bus.fits with }⟩
  unfold State.answered
  split
  · exact b.cutAfterBeat_sound service bus
  · split
    · next write =>
      have past : s.engine.state ≠ .reading := by simpa [write] using direction.symm
      exact b.writeDone_sound service agrees marked past (writes write)
    · next read =>
      have reading : s.engine.state = .reading := by simpa [read] using direction.symm
      exact b.readDone_sound service agrees marked reading word w ld

/-- An answer to the beat in flight. A write beat carries a unit of the run, so one is left to commit. -/
theorem Busy.answerBeat_sound (b : Busy o F s) (sound : EngineSound s.engine)
    (writes : ∀ beat v, s.engine.beat = some beat → s.engine.service = some v → beat.write = true → (s.ctx v.ctx).residual ≠ 0)
    (a : Answer) (ld : Half) (term : Bool) : EngineSound (s.answerBeat a ld term).engine := by
  cases inFlight : s.engine.beat with
  | none => simpa only [State.answerBeat, inFlight] using sound
  | some beat =>
    cases service : s.engine.service with
    | none => simpa only [State.answerBeat, inFlight, service] using sound
    | some v =>
      by_cases fits : (s.window (v.beatWindow beat)).inForce = none ∨ (s.window (v.beatWindow beat)).inForce = some a.width
      · have bus := sound.bus service (sound.beat (by rw [inFlight]; rfl))
        have noted := b.noteAnswer service beat a
        rw [State.answerBeat_completes service inFlight fits]
        have left := bus.noteAnswer beat a
        have directs := (sound.service v service).direction beat inFlight
        have units := writes beat v inFlight service
        rw [State.noteAnswer_eq] at noted left ⊢
        exact noted.answered_sound rfl left directs units _ _ _
      · rw [not_or] at fits
        rw [State.answerBeat_fails service inFlight (Option.isSome_iff_ne_none.2 fits.1) fits.2]
        exact b.failBeat_sound sound .width

/-- The levels that the engine has seen of its lines, and what may still arrive of a beat that ended, are free (R92, R105). -/
theorem EngineSound.aside {e : Engine} (sound : EngineSound e) (lgnt : Bool) (rival : Option Rival) :
    EngineSound { e with lgnt := lgnt, rival := rival } :=
  { sound with service := fun v service => { sound.service v service with } }

theorem EngineSound.pastLate (sound : EngineSound s.engine) (r : Rival) : EngineSound (s.pastLate r).engine :=
  sound.aside s.engine.lgnt (if s.engine.rival = some r then none else s.engine.rival)

/-- An answer or an expiry that is taken has its effect; one that is late has none (R106). -/
theorem Busy.onBeat_sound (b : Busy o F s) (sound : EngineSound s.engine) (r : Rival) {f : State → State}
    (taken : ∀ t : State, Busy o F t → EngineSound t.engine → (∀ d, t.ctx d = s.ctx d) → t.engine.beat = s.engine.beat →
      t.engine.service = s.engine.service → EngineSound (f t).engine) : EngineSound (s.onBeat r f).engine := by
  rcases s.onBeat_cases r f with late | late | ⟨v, beat, t, -, -, same, takes⟩
  · rw [late]
    exact sound.pastLate r
  · rw [late]
    exact sound.aside s.engine.lgnt none
  · rw [takes]
    rcases same with rfl | rfl
    · exact taken _ (b.setEngine rfl) (sound.aside _ _) (fun _ => rfl) rfl rfl
    · exact taken _ (b.countChoice.setEngine rfl) (sound.aside _ _) (fun _ => rfl) rfl rfl

/-! ## An abort of the ACTIVE context (R113 to R115) -/

/-- With a beat in flight an abort cuts the announced burst of a reading, and a MOVE in WRITING drains from now on. -/
theorem EngineSound.abortReaches_beat (sound : EngineSound s.engine) (service : s.engine.service = some v)
    (inFlight : s.engine.beat = some beat) : EngineSound s.abortReaches.engine := by
  have some : s.engine.beat.isSome = true := by rw [inFlight]; rfl
  have bus := sound.bus service (sound.beat some)
  obtain ⟨direction, word⟩ := (sound.service v service).direction beat inFlight
  rw [State.abortReaches_beat service bus.onBus some]
  by_cases drains : s.engine.state = .writing ∧ v.kind = .move
  · obtain ⟨writing, move⟩ := drains
    have past : s.engine.state ≠ .reading := by simp [writing]
    have fits := bus.fits
    rw [if_pos ⟨writing, move⟩, if_neg past]
    refine OnBus.sound ⟨rfl, bus.own, bus.request, .writesOut move fits.length fits.units (fits.buffered move)
      (fits.moves past move) nofun (fits.whole past) (fun _ => rfl) fits.half⟩ rfl inFlight ⟨?_, word⟩
    rw [direction, decide_eq_true past]
    rfl
  · rw [if_neg drains]
    split
    · exact OnBus.sound (v := { v with burst := 0 }) ⟨bus.onBus, bus.own, bus.request, { bus.fits with }⟩ rfl inFlight
        ⟨direction, word⟩
    · exact OnBus.sound (v := v) ⟨bus.onBus, bus.own, bus.request, { bus.fits with }⟩ rfl inFlight ⟨direction, word⟩

/-- Before the first strobe of a service nothing is buffered, so that it reads, or it is a FILL that writes (R68, R72). -/
theorem ServiceSound.unstrobed {e : Engine} (fits : ServiceSound v e) (onBus : e.state.onBus = true) (none : e.beat = none) :
    v.half = false ∧ (e.state = .reading ∧ e.buffer = [] ∨ e.state = .writing ∧ v.kind = .fill) := by
  obtain ⟨steady, unread, -, whole, -⟩ := fits.fresh onBus none
  have empty : e.buffer = [] := by
    cases kind : v.kind with
    | move =>
      obtain ⟨count, -⟩ := fits.buffered kind
      exact List.length_eq_zero_iff.1 (by omega)
    | fill => exact fits.unbuffered (by simp [kind])
    | check => exact fits.unbuffered (by simp [kind])
  refine ⟨whole, ?_⟩
  by_cases reading : e.state = .reading
  · exact .inl ⟨reading, empty⟩
  · refine .inr ⟨?_, ?_⟩
    · revert onBus reading steady
      cases e.state <;> simp [EngState.onBus]
    · cases kind : v.kind with
      | move => exact absurd empty (fits.moves reading kind)
      | fill => rfl
      | check => exact absurd kind (fits.writing reading)

theorem Busy.abortReaches_sound (b : Busy o F s) (sound : EngineSound s.engine) : EngineSound s.abortReaches.engine := by
  cases service : s.engine.service with
  | none => simpa only [State.abortReaches, service] using sound
  | some v =>
    have request := sound.requests service
    by_cases onBus : s.engine.state.onBus = true
    · cases inFlight : s.engine.beat with
      | some beat => exact sound.abortReaches_beat service inFlight
      | none =>
        obtain ⟨whole, phase⟩ := (sound.service v service).unstrobed onBus inFlight
        rw [State.abortReaches_unstrobed service inFlight whole phase]
        exact b.endService_sound service request
    · cases state : s.engine.state with
      | pinned =>
        simp only [State.abortReaches, service, state]
        exact b.pinnedAbort_sound service request
      | idle => simpa only [State.abortReaches, service, state] using sound
      | asking => simpa only [State.abortReaches, service, state] using sound
      | reading => exact absurd (by rw [state]; rfl) onBus
      | writing => exact absurd (by rw [state]; rfl) onBus
      | draining => exact absurd (by rw [state]; rfl) onBus

end
end Sys2Proof.Machine
end

section
/-! SUPPORT. The engine over the commands that name no service: each changes it by re-evaluations of work present alone (R92). -/

namespace Sys2Proof.Machine

section
variable {e : Engine} {s t : State} {h : HostNo}

/-! ## The accesses of a port (R151 to R163) -/

theorem Engine.Asked.resign (asked : e.Asked s.engine) : e.Asked (s.resign h).engine :=
  Engine.Asked.reevaluate asked

theorem Engine.Asked.latchCommand (asked : e.Asked s.engine) (b : Byte) : e.Asked (s.latchCommand h b).engine := by
  unfold State.latchCommand
  dsimp only
  split
  · exact asked
  · exact Engine.Asked.resign asked
  · split
    · exact asked
    · exact asked

theorem Engine.Asked.commandByte (asked : e.Asked s.engine) {b : Byte} (next : execCommandByte h b s = .next t) :
    e.Asked t.engine := by
  rw [← next_inj next]
  split
  · exact asked.latchCommand b
  · exact asked.latchCommand b
  · exact asked
  · exact asked
  · exact asked

theorem Engine.Asked.parameterByte (asked : e.Asked s.engine) {b : Byte} (next : execParameterByte h b s = .next t) :
    e.Asked t.engine := by
  rw [← next_inj next]
  split
  · dsimp only
    split
    · split
      · exact asked
      · exact asked
    · exact asked
  · exact asked
  · exact asked
  · exact asked
  · exact asked

theorem Engine.Asked.statusRead (asked : e.Asked s.engine) (next : execStatusRead h s = .next t) : e.Asked t.engine := by
  rw [← next_inj next]
  split
  · exact asked
  · exact asked

theorem Engine.Asked.responseRead (asked : e.Asked s.engine) (next : execResponseRead h s = .next t) : e.Asked t.engine := by
  rw [← next_inj next]
  split
  · exact asked
  · split
    · exact asked
    · exact asked

theorem Engine.Asked.rsn (asked : e.Asked s.engine) (next : execRsn h s = .next t) : e.Asked t.engine := by
  rw [← next_inj next]
  split
  · exact asked.latchCommand _
  · exact asked

theorem Engine.Asked.badCmd (asked : e.Asked s.engine) {code : Byte} (next : execBadCmd h code s = .next t) :
    e.Asked t.engine := by
  rw [← next_inj next]
  split
  · exact asked.latchCommand _
  · exact asked

theorem Engine.Asked.prstAssertion (asked : e.Asked s.engine) (next : execPrstAssertion h s = .next t) : e.Asked t.engine := by
  rw [← next_inj next]
  split
  · exact asked
  · dsimp only
    split
    · exact asked
    · split
      · exact asked
      · exact Engine.Asked.reevaluate asked

theorem Engine.Asked.prstRelease (asked : e.Asked s.engine) (next : execPrstRelease h s = .next t) : e.Asked t.engine := by
  rw [← next_inj next]
  split
  · split
    · exact asked
    · exact asked
  · exact asked

/-! ## The commands that a block takes (R8 to R24, R31 to R35, R56, R143 to R145) -/

theorem Engine.Asked.onCtx (asked : e.Asked s.engine) {ps : List Byte} {accept : CtxState → Bool} {run : CtxNo → State × Reply}
    (runs : ∀ c, e.Asked (run c).1.engine) : e.Asked (s.onCtx h ps accept run).1.engine := by
  unfold State.onCtx
  split
  · exact asked
  · exact runs _

theorem Engine.Asked.setPart (asked : e.Asked s.engine) (c : CtxNo) (x : Option Ctx) : e.Asked (s.setPart c x).1.engine := by
  cases x with
  | none => exact asked
  | some y => exact asked

theorem Engine.Asked.claim (asked : e.Asked s.engine) (ps : List Byte) : e.Asked (State.claim h ps s).1.engine := by
  unfold State.claim
  dsimp only
  split
  · split
    · exact asked
    · exact asked
  · split
    · exact asked
    · split
      · exact asked
      · exact asked

theorem Engine.Asked.release (asked : e.Asked s.engine) (ps : List Byte) : e.Asked (State.release h ps s).1.engine :=
  asked.onCtx fun _ => asked

theorem Engine.Asked.setSource (asked : e.Asked s.engine) (ps : List Byte) : e.Asked (State.setSource h ps s).1.engine :=
  asked.onCtx fun c => asked.setPart c _

theorem Engine.Asked.setDest (asked : e.Asked s.engine) (ps : List Byte) : e.Asked (State.setDest h ps s).1.engine :=
  asked.onCtx fun c => asked.setPart c _

theorem Engine.Asked.setCount (asked : e.Asked s.engine) (ps : List Byte) : e.Asked (State.setCount h ps s).1.engine :=
  asked.onCtx fun c => asked.setPart c _

theorem Engine.Asked.setMode (asked : e.Asked s.engine) (ps : List Byte) : e.Asked (State.setMode h ps s).1.engine :=
  asked.onCtx fun c => asked.setPart c _

theorem Engine.Asked.setPattern (asked : e.Asked s.engine) (ps : List Byte) : e.Asked (State.setPattern h ps s).1.engine :=
  asked.onCtx fun c => asked.setPart c _

theorem Engine.Asked.setLink (asked : e.Asked s.engine) (ps : List Byte) : e.Asked (State.setLink h ps s).1.engine := by
  refine asked.onCtx fun c => ?_
  dsimp only
  split
  · exact asked
  · split
    · exact asked
    · split
      · exact asked
      · split
        · exact asked
        · exact asked

theorem Engine.Asked.start (asked : e.Asked s.engine) (ps : List Byte) : e.Asked (State.start h ps s).1.engine := by
  refine asked.onCtx fun c => ?_
  split
  · exact asked
  · exact Engine.Asked.reevaluate (by rw [State.engine_takeStart]; exact asked)

theorem Engine.Asked.suspend (asked : e.Asked s.engine) (ps : List Byte) : e.Asked (State.suspend h ps s).1.engine := by
  refine asked.onCtx fun c => ?_
  dsimp only
  split
  · exact asked
  · exact Engine.Asked.reevaluate asked

theorem Engine.Asked.resume (asked : e.Asked s.engine) (ps : List Byte) : e.Asked (State.resume h ps s).1.engine :=
  asked.onCtx fun _ => Engine.Asked.reevaluate asked

theorem Engine.Asked.query (asked : e.Asked s.engine) (ps : List Byte) : e.Asked (State.query h ps s).1.engine :=
  asked.onCtx fun _ => asked

theorem Engine.Asked.openWindow (asked : e.Asked s.engine) (ps : List Byte) : e.Asked (State.openWindow h ps s).1.engine := by
  unfold State.openWindow
  dsimp only
  split
  · exact asked
  · split
    · exact asked
    · split
      · split
        · exact asked
        · exact asked
      · exact asked

theorem Engine.Asked.closeWindow (asked : e.Asked s.engine) (ps : List Byte) : e.Asked (State.closeWindow h ps s).1.engine := by
  unfold State.closeWindow
  split
  · exact asked
  · dsimp only
    split
    · exact asked
    · split
      · exact asked
      · split
        · exact asked
        · exact asked

theorem Engine.Asked.queryWindow (asked : e.Asked s.engine) (ps : List Byte) : e.Asked (State.queryWindow h ps s).1.engine := by
  unfold State.queryWindow
  split
  · exact asked
  · dsimp only
    split
    · exact asked
    · split
      · exact asked
      · exact asked

theorem Engine.Asked.setOwnWeight (asked : e.Asked s.engine) (ps : List Byte) : e.Asked (State.setOwnWeight h ps s).1.engine := by
  unfold State.setOwnWeight
  dsimp only
  split
  · exact asked
  · split
    · exact asked
    · exact asked

theorem Engine.Asked.takeRecord (asked : e.Asked s.engine) (ps : List Byte) : e.Asked (State.takeRecord h ps s).1.engine := by
  unfold State.takeRecord
  split
  · exact asked
  · exact Engine.Asked.reevaluate (by rw [State.engine_releaseHeld]; exact asked)

theorem Engine.Asked.peekRecord (asked : e.Asked s.engine) (ps : List Byte) : e.Asked (State.peekRecord h ps s).1.engine := by
  unfold State.peekRecord
  split
  · exact asked
  · exact asked

/-- A command that its block takes is replied to, and no more (R154). -/
theorem EngineSound.take (sound : EngineSound s.engine) {cmd : Cmd} {run : List Byte → State → State × Reply}
    (runs : ∀ ps, EngineSound (run ps s).1.engine) (next : (Host.Outcome.next (s.take h cmd run) : Host.Outcome State Fault Refusal) = .next t) :
    EngineSound t.engine := by
  rw [← next_inj next]
  unfold State.take
  split
  · split
    · exact (Engine.Asked.reply .same _).sound (runs _)
    · exact sound
  · exact sound

theorem EngineSound.takeQuiet (sound : EngineSound s.engine) {cmd : Cmd} {run : List Byte → State → State × Reply}
    (runs : ∀ ps, s.engine.Asked (run ps s).1.engine)
    (next : (Host.Outcome.next (s.take h cmd run) : Host.Outcome State Fault Refusal) = .next t) : EngineSound t.engine :=
  sound.take (fun ps => (runs ps).sound sound) next

/-! ## The request lines (R120) -/

theorem Engine.Asked.requestAsserted (asked : e.Asked s.engine) {n : LineNo} (next : execRequestObservedAsserted n s = .next t) :
    e.Asked t.engine := by
  rw [← next_inj next]
  split
  · exact Engine.Asked.reevaluate asked
  · exact asked

/-- The mark of a STREAM service whose request is dropped bears on no part of the engine (R125). -/
theorem EngineSound.dropRequest (sound : EngineSound s.engine) (c : CtxNo) : EngineSound (s.dropRequest c).engine := by
  unfold State.dropRequest
  split
  · next v service =>
    split
    · have serving := sound.serving
      rw [service] at serving
      refine { sound with serving := serving, empty := nofun, service := fun x is => ?_ }
      cases is
      exact { sound.service v service with }
    · exact sound
  · exact sound

theorem EngineSound.requestDeasserted (sound : EngineSound s.engine) {n : LineNo} (next : execRequestObservedDeasserted n s = .next t) :
    EngineSound t.engine := by
  rw [← next_inj next]
  split
  · next c _ => exact (EngineSound.dropRequest (s := State.setLine s n _) sound c).reevaluate
  · exact sound

end
end Sys2Proof.Machine
end

section
/-! The engine over every step (R65, R69, R70, R91 to R95): each command of the interface, and the part going on by itself, leaves a
sound engine sound. -/

namespace Sys2Proof.Machine

section
variable {o : State} {F : HostNo → Prop} {s t : State} {c : CtxNo} {h : HostNo}

/-! ## What a sound engine is between two acts -/

/-- No grant is on its way out without a beat in flight (R95). -/
theorem EngineSound.keeps {e : Engine} (sound : EngineSound e) (noBeat : e.beat = none) : e.losing = none :=
  Option.not_isSome_iff_eq_none.1 fun losing => by
    have inFlight := sound.losing losing
    rw [noBeat] at inFlight
    cases inFlight

/-- On the bus a service is in flight (R65). -/
theorem EngineSound.served {e : Engine} (sound : EngineSound e) (onBus : e.state.onBus = true) : ∃ v, e.service = some v :=
  Option.isSome_iff_exists.1 (sound.serving.trans (EngState.serving_of_onBus onBus))

/-! ## ABT (R21, R113 to R115) -/

theorem State.onCtx_cases (s : State) (h : HostNo) (ps : List Byte) (accept : CtxState → Bool) (run : CtxNo → State × Reply) :
    (∃ r, s.onCtx h ps accept run = (s, .of r)) ∨
      ∃ c, (s.ctx c).owner = some h ∧ accept (s.ctx c).state = true ∧ s.onCtx h ps accept run = run c := by
  unfold State.onCtx State.ctxTest
  cases ctxOf (param ps 0) with
  | none => exact .inl ⟨_, rfl⟩
  | some c =>
    dsimp only
    by_cases foreign : (s.ctx c).state = .free ∨ (s.ctx c).owner ≠ some h
    · rw [if_pos foreign]
      exact .inl ⟨_, rfl⟩
    · rw [if_neg foreign]
      cases accepted : accept (s.ctx c).state with
      | true => exact .inr ⟨c, Classical.byContradiction fun other => foreign (.inr other), accepted, rfl⟩
      | false => exact .inl ⟨_, rfl⟩

/-- Abort pending set on the ACTIVE context of the host that asks for it (R113). -/
theorem Kept.abortMarked (k : Kept o F s none) (mine : ¬F h) (owner : (s.ctx c).owner = some h) (active : (s.ctx c).state = .active) :
    Busy o F (s.setCtx c { s.ctx c with abortPending := true }) := by
  have record := (k.tabled.placed c nofun).record
  have marked : Kept o F (s.setCtx c { s.ctx c with abortPending := true }) none :=
    k.setActive owner mine active active ⟨rfl, rfl, rfl⟩
      { record with abortPending := fun _ => active, counts := { record.counts with } } fun v service same => by
        obtain ⟨isMatch, left⟩ := k.tabled.served v service
        rw [same] at isMatch left
        exact ⟨isMatch.recast rfl rfl rfl rfl rfl rfl rfl rfl, left⟩
  exact marked.busy (c := c) mine (by simpa using owner) (by simpa using active)

theorem Kept.abort_sound (k : Kept o F s none) (mine : ¬F h) (sound : EngineSound s.engine) (ps : List Byte) :
    EngineSound (State.abort h ps s).1.engine := by
  unfold State.abort
  obtain ⟨r, refused⟩ | ⟨c, owner, -, runs⟩ := s.onCtx_cases h ps _ _
  · rw [refused]
    exact sound
  · rw [runs]
    dsimp only
    split
    · next active => exact (k.abortMarked mine owner active).abortReaches_sound sound
    · exact EngineSound.reevaluate (by rw [State.engine_runEnds]; exact sound)

/-! ## The grant (R93, R95) -/

/-- A grant is taken by an engine that asks or is PINNED (R93). -/
theorem State.runnable.takeGrant (listed : s.runnable) (sound : EngineSound s.engine) (off : s.engine.lown = false)
    (request : s.engine.lreq = true) : EngineSound s.takeGrant.engine := by
  have unowned : ¬s.engine.state.onBus = true := fun onBus => by cases off.symm.trans (sound.own onBus)
  have noBeat : s.engine.beat = none := Option.not_isSome_iff_eq_none.1 (mt sound.beat unowned)
  cases state : s.engine.state with
  | asking =>
    have free := sound.free (sound.idle_of_asking state)
    rw [State.takeGrant_asking state]
    exact State.runnable.select (s := s.setEngine _) listed
      ⟨free.service, free.buffer, free.partialByte, free.beat, fun _ => ⟨state, request⟩⟩ rfl (sound.keeps noBeat)
  | pinned =>
    have serving := sound.serving
    rw [state] at serving
    obtain ⟨v, service⟩ := Option.isSome_iff_exists.1 serving
    exact sound.takeGrant_pinned service state
  | idle => exact absurd state (sound.request.1 request)
  | reading => exact absurd (by rw [state]; rfl) unowned
  | writing => exact absurd (by rw [state]; rfl) unowned
  | draining => exact absurd (by rw [state]; rfl) unowned

theorem CoreSound.grantArrival_sound (core : CoreSound s) (next : execGrantArrival s = .next t) : EngineSound t.engine := by
  rw [← next_inj next]
  have seen : EngineSound { s.engine with lgnt := true } := core.engine.aside true s.engine.rival
  split
  · next asks =>
    obtain ⟨request, unowned⟩ := Bool.and_eq_true_iff.1 asks
    have off : s.engine.lown = false := by simpa only [Bool.not_eq_true'] using unowned
    have listed : s.runnable := (core.kept fun _ => False).runnable
    exact State.runnable.takeGrant (s := (State.setEngine s _).pastLate .expiry) listed (EngineSound.pastLate seen .expiry)
      off request
  · exact seen

/-- A withdrawal of the grant with no beat in flight settles the service before its first strobe, or leaves the bus before a
selection (R95). -/
theorem CoreSound.settleLoss_sound (core : CoreSound s) (own : s.engine.lown = true) : EngineSound s.lossSeen.settleLoss.engine := by
  have sound := core.engine
  have busy : Busy s (fun _ => False) s.lossSeen := (core.busy fun _ => not_false).setEngine rfl
  rcases sound.owned own with onBus | asking
  · obtain ⟨v, service⟩ := sound.served onBus
    have bus := sound.bus service onBus
    exact busy.settleLoss_sound service ⟨bus.onBus, bus.own, bus.request, { bus.fits with }⟩
  · have idle := sound.idle_of_asking asking
    have free := sound.free idle
    rw [State.settleLoss_idle (s := s.lossSeen) idle]
    exact busy.kept.runnable.leaveBus ⟨free.service, free.buffer, free.partialByte, free.beat, free.asks⟩

theorem CoreSound.grantWithdrawal_sound (core : CoreSound s) (next : execGrantWithdrawal s = .next t) : EngineSound t.engine := by
  rw [← next_inj next]
  have seen : EngineSound { s.engine with lgnt := false } := core.engine.aside false s.engine.rival
  split
  · exact seen
  · next keeps =>
    have own : s.engine.lown = true := by simpa using (not_or.1 (mt Bool.or_eq_true_iff.2 keeps)).1
    change EngineSound (if s.engine.beat.isSome = true then s.lossSeen else s.lossSeen.settleLoss).engine
    split
    · next inFlight =>
      exact { seen with losing := fun _ => inFlight, service := fun v service => { seen.service v service with } }
    · exact core.settleLoss_sound own

/-! ## The answers (R79, R103 to R106) -/

theorem CoreSound.beatAnswer_sound (core : CoreSound s) {a : Answer} {ld : Half} {term : Bool}
    (next : execBeatAnswer a ld term s = .next t) : EngineSound t.engine := by
  rw [← next_inj next]
  refine Busy.onBeat_sound (core.busy fun _ => not_false) core.engine .answer fun u busy sound ctx beat service => ?_
  refine busy.answerBeat_sound sound (fun b v inFlight serves write => ?_) a ld term
  rw [ctx]
  exact core.writes (beat ▸ inFlight) (service ▸ serves) write

theorem CoreSound.failBeat_sound (core : CoreSound s) (r : Rival) (k : Cause) :
    EngineSound (s.onBeat r fun u => u.failBeat k).engine :=
  Busy.onBeat_sound (core.busy fun _ => not_false) core.engine r fun _ busy sound _ _ _ => busy.failBeat_sound sound k

theorem CoreSound.ackTimeout_sound (core : CoreSound s) (next : execAckTimeout s = .next t) : EngineSound t.engine := by
  rw [← next_inj next]
  split
  · exact core.failBeat_sound .expiry .timeout
  · exact core.engine.pastLate .expiry

/-! ## The steps of a withdrawal (R118, R161) -/

theorem CoreSound.cutStep_sound (core : CoreSound s) (served : s.servedHost = some h) (w : Withdrawal) :
    EngineSound (s.cutStep h w).engine := by
  unfold State.cutStep
  split
  · exact core.engine
  · cases service : s.engine.service with
    | none =>
      rw [State.servedHost, service] at served
      cases served
    | some v =>
      rw [State.servedHost, service] at served
      exact (core.busy fun _ => not_false).cutService_sound service served (core.engine.requests service)

theorem CoreSound.serviceCut_sound (core : CoreSound s) (next : execServiceCut s = .next t) : EngineSound t.engine := by
  rw [← next_inj next]
  split
  · next h served =>
    split
    · split
      · exact core.cutStep_sound served _
      · exact core.engine
    · exact core.engine
  · exact core.engine

theorem CoreSound.nextStep_sound (core : CoreSound s) (h : HostNo) (w : Withdrawal) : EngineSound (s.nextStep h w).engine := by
  have sound := core.engine
  have cuts : EngineSound (if s.servedHost = some h then s.cutStep h w else s.setWd h (some { w with step := .contexts })).engine := by
    split
    · next served => exact core.cutStep_sound served w
    · exact sound
  unfold State.nextStep
  split
  · split
    · exact sound
    · exact (Engine.Asked.beginDue .same).sound sound
  · exact cuts
  · exact cuts
  · exact EngineSound.reevaluate (by rw [State.engine_setWd, State.engine_freeContexts]; exact sound)
  · rw [State.engine_setWd, State.engine_withdrawWindows]
    exact sound
  · rw [State.engine_setWd, State.engine_emptyQueue]
    exact sound
  · exact EngineSound.reevaluate (by rw [State.engine_completeWithdrawal, State.engine_resetWeight]; exact sound)

theorem CoreSound.nextWithdrawalStep_sound (core : CoreSound s) (next : execNextWithdrawalStep h s = .next t) :
    EngineSound t.engine := by
  rw [← next_inj next]
  split
  · exact core.nextStep_sound h _
  · exact core.engine

/-! ## The part goes on by itself (R68, R94) -/

theorem CoreSound.goOn_sound (core : CoreSound s) : EngineSound s.goOn.engine := by
  have sound := core.engine
  by_cases held : s.engine.lown = true ∧ s.engine.beat = none ∧ s.engine.losing = none
  · obtain ⟨own, beat, keeps⟩ := held
    have issues : s.engine.state.onBus = true → EngineSound (s.pastLate .expiry).issueBeat.engine := fun onBus => by
      obtain ⟨v, service⟩ := sound.served onBus
      exact (EngineSound.bus (sound.pastLate .expiry) service onBus).issueBeat service
    rw [State.goOn_held own beat keeps]
    split
    · next asking =>
      have free := (sound.pastLate .expiry).free (sound.idle_of_asking asking)
      exact State.runnable.selectNow (s := s.pastLate .expiry) (core.kept fun _ => False).runnable free own keeps false
    · next reading => exact issues (by rw [reading]; rfl)
    · next writing => exact issues (by rw [writing]; rfl)
    · next draining => exact issues (by rw [draining]; rfl)
    · exact sound
    · exact sound
  · rw [State.goOn_idles (by simpa only [not_and_or, Bool.not_eq_true] using held)]
    exact sound

/-! ## Every command -/

theorem CoreSound.exec_sound (core : CoreSound s) {i : Instr} (next : Machine.exec i s = .next t) : EngineSound t.engine := by
  have sound := core.engine
  have kept : s.engine.Asked s.engine := .same
  cases i with
  | commandByte h b => exact (kept.commandByte next).sound sound
  | parameterByte h b => exact (kept.parameterByte next).sound sound
  | statusRead h => exact (kept.statusRead next).sound sound
  | responseRead h => exact (kept.responseRead next).sound sound
  | clm h => exact sound.takeQuiet (fun ps => kept.claim ps) next
  | rel h => exact sound.takeQuiet (fun ps => kept.release ps) next
  | src h => exact sound.takeQuiet (fun ps => kept.setSource ps) next
  | dst h => exact sound.takeQuiet (fun ps => kept.setDest ps) next
  | cnt h => exact sound.takeQuiet (fun ps => kept.setCount ps) next
  | mod h => exact sound.takeQuiet (fun ps => kept.setMode ps) next
  | pat h => exact sound.takeQuiet (fun ps => kept.setPattern ps) next
  | lnk h => exact sound.takeQuiet (fun ps => kept.setLink ps) next
  | sta h => exact sound.takeQuiet (fun ps => kept.start ps) next
  | sus h => exact sound.takeQuiet (fun ps => kept.suspend ps) next
  | rsm h => exact sound.takeQuiet (fun ps => kept.resume ps) next
  | abt h => exact sound.take (fun ps => (core.kept fun _ => False).abort_sound (h := h) not_false sound ps) next
  | qry h => exact sound.takeQuiet (fun ps => kept.query ps) next
  | opw h => exact sound.takeQuiet (fun ps => kept.openWindow ps) next
  | clw h => exact sound.takeQuiet (fun ps => kept.closeWindow ps) next
  | qwn h => exact sound.takeQuiet (fun ps => kept.queryWindow ps) next
  | wgt h => exact sound.takeQuiet (fun ps => kept.setOwnWeight ps) next
  | tke h => exact sound.takeQuiet (fun ps => kept.takeRecord ps) next
  | pek h => exact sound.takeQuiet (fun ps => kept.peekRecord ps) next
  | rsn h => exact (kept.rsn next).sound sound
  | badCmd h code => exact (kept.badCmd next).sound sound
  | prstAssertion h => exact (kept.prstAssertion next).sound sound
  | prstRelease h => exact (kept.prstRelease next).sound sound
  | reset =>
    rw [← next_inj next]
    exact s.reset_core.engine
  | grantArrival => exact core.grantArrival_sound next
  | grantWithdrawal => exact core.grantWithdrawal_sound next
  | beatAnswer a ld term => exact core.beatAnswer_sound next
  | faultAnswer code =>
    rw [← next_inj next]
    exact core.failBeat_sound .answer .fault
  | ackTimeout => exact core.ackTimeout_sound next
  | requestObservedAsserted n => exact (kept.requestAsserted next).sound sound
  | requestObservedDeasserted n => exact sound.requestDeasserted next
  | serviceCut => exact core.serviceCut_sound next
  | nextWithdrawalStep h => exact core.nextWithdrawalStep_sound next

end

/-- Settles O54: a command of the queue, or the part going on by itself, leaves the engine sound. -/
theorem engineStaysSound : Obligations.EngineStaysSound := by
  intro s t core next
  unfold Machine.step at next
  split at next
  · next i rest _ => exact (core.withPending rest).exec_sound next
  · rw [← next_inj next]
    exact core.goOn_sound

end Sys2Proof.Machine
end
